-- ==== Sys2Proof/Word.lean ====
section
/-! DEFINITION. The word types of the engine (R4, R7): 8-bit data, 16-bit addresses and port numbers. -/

namespace Sys2Proof

/-- An 8-bit value, bits 7..0 (R7). -/
abbrev Byte := BitVec 8

/-- A 16-bit value, bits 15..0 (R7). -/
abbrev Word := BitVec 16

end Sys2Proof
end

