-- ==== Sys2Proof/Machine/Bits.lean ====
section
/-! DEFINITION. The bit notation of rule R7: halves, concatenation, sign extension, and bits of a byte. -/

namespace Sys2Proof.Machine

/-- `hi(v)` = `v[15:8]` (R7). -/
def hi (v : Word) : Byte := v.extractLsb' 8 8

/-- `lo(v)` = `v[7:0]` (R7). -/
def lo (v : Word) : Byte := v.extractLsb' 0 8

/-- `hi:lo`: concatenation, `h` in bits 15..8 (R7). -/
def pair (h l : Byte) : Word := h ++ l

/-- `sext_16(v)`: the byte read as two's complement and widened to 16 bits (R7, R88, R89). -/
def sext16 (v : Byte) : Word := v.signExtend 16

/-- `1 << b` in a byte: the mask of bit `b` (R284, R287). -/
def bitMask (b : BitVec 3) : Byte := 1#8 <<< b.toNat

/-- Bits 5..3 of an opcode byte: the fields `r`, `c`, `b`, `t` (R84). -/
def bits53 (op : Byte) : BitVec 3 := op.extractLsb' 3 3

/-- Bits 2..0 of an opcode byte: the field `s` (R84). -/
def bits20 (op : Byte) : BitVec 3 := op.extractLsb' 0 3

/-- Bits 5..4 of an opcode byte: the field `p` (R84). -/
def bits54 (op : Byte) : BitVec 2 := op.extractLsb' 4 2

/-- The number of 1 bits of a byte. -/
def ones8 (v : Byte) : Nat :=
  (v.getLsbD 0).toNat + (v.getLsbD 1).toNat + (v.getLsbD 2).toNat + (v.getLsbD 3).toNat
    + (v.getLsbD 4).toNat + (v.getLsbD 5).toNat + (v.getLsbD 6).toNat + (v.getLsbD 7).toNat

/-- `parity8(v)`: 1 when the number of 1 bits is even (R112). -/
def parity8 (v : Byte) : Bool := ones8 v % 2 == 0

end Sys2Proof.Machine
end

