-- ==== Sys2Proof/Config.lean ====
section
/-! DEFINITION. The named parameters of rule R5, and the values the spec leaves free (R7 `any`). -/

namespace Sys2Proof

/-- `R_POLICY` (R5, R31): by how much R advances in a step that decodes an instruction. -/
inductive RPolicy where
  /-- By the instruction's length in bytes: what the source states, the default. -/
  | byteLength
  /-- By 1 for an instruction without a leading CB, ED, DD, FD byte, else by 2. -/
  | m1Count
  deriving DecidableEq, Repr

/-- The named parameters of rule R5 that stay fixed for a run. A field not given takes the spec's
default. `RESET_UNSPEC` and `XY(·)` of that table are `Machine.ResetUnspec` and the draws below. -/
structure Config where
  /-- `NMI_VECTOR`: where `signal_nmi` sends PC (R346, D7). -/
  nmiVector : Word := 0x0066#16
  /-- `INT_VECTOR`: where an accepted `signal_int` sends PC (R348, D7). -/
  intVector : Word := 0x0038#16
  /-- `R_POLICY` (R31, D5). -/
  rPolicy : RPolicy := .byteLength
  /-- `RETI_COPIES_IFF2` (R305, D14). -/
  retiCopiesIff2 : Bool := false
  deriving DecidableEq, Repr

/-- Every parameter at its default (R5). -/
def Config.default : Config := {}

/-- FREE VALUE (log 4, log 5). The byte of the k-th draw for undefined flag bits: bits 5 and 3 are
what F.Y and F.X take (R127), bits 4 and 2 what F.H and F.PV take after a non-final iteration of a
block input or output instruction (R324). It has no body: no proof can know a value of it. -/
opaque Config.anyFlags : Nat → Byte

/-- FREE VALUE (log 3). What a port read answers when the environment has given no answer in
advance: it depends on how many values were drawn before and on the port number (R57, U9). -/
opaque Config.anyPort : Nat → Word → Byte

end Sys2Proof
end

