-- ==== Sys2Proof/Machine/State.lean ====
section
/-! DEFINITION. The state of the engine (10_state.md), with the environment's side of its interfaces (R6) as plain data; the ways a step can stop; the state after reset (R40). -/

namespace Sys2Proof.Machine

/-- The register F: its eight bits, high to low (R16). `y` (bit 5) and `x` (bit 3) are the unused
bits, which are real storage. The byte is `Flags.toByte` in Operands.lean (log 11). -/
@[ext] structure Flags where
  s : Bool
  z : Bool
  y : Bool
  h : Bool
  x : Bool
  pv : Bool
  n : Bool
  c : Bool
  deriving DecidableEq, Repr

/-- Eight 8-bit registers: the primary set (R10), and its shadow counterpart (R11). -/
@[ext] structure Bank where
  a : Byte
  f : Flags
  b : Byte
  c : Byte
  d : Byte
  e : Byte
  h : Byte
  l : Byte
  deriving DecidableEq, Repr

/-- `IM`: the interrupt mode (R21, U14, log 12). -/
inductive IntMode where
  | im0
  | im1
  | im2
  deriving DecidableEq, Repr

/-- The three values of `HALT_ST` (R29) and of `EI_ST` (R30). -/
inductive Latch where
  | none
  | waiting
  | satisfied
  deriving DecidableEq, Repr

/-- The two interrupt entry points of the engine (R6, R340). -/
inductive Signal where
  /-- `signal_nmi()` (R346). -/
  | nmi
  /-- `signal_int()` (R348). -/
  | int
  deriving DecidableEq, Repr

/-- One access the engine issues at its Memory or Port interface (R52, R57), with the value moved. -/
inductive BusAccess where
  | memRead (addr : Word) (value : Byte)
  | memWrite (addr : Word) (value : Byte)
  | portRead (port : Word) (value : Byte)
  | portWrite (port : Word) (value : Byte)
  deriving DecidableEq, Repr

/-- The contents of the 64K memory behind the Memory interface (R50): the bytes that differ from
`Memory.fill`, in the canonical form `Memory.wf`. -/
abbrev Memory := List Host.Cell

/-- What an address that is not listed reads as. DESIGN CHOICE (log 2): the spec leaves memory's
contents to the environment. -/
def Memory.fill : Byte := 0x00#8

/-- The canonical form: addresses strictly rising, inside the address space, and no listed byte equal
to what an unlisted address reads as. -/
abbrev Memory.wf (m : Memory) : Prop :=
  m.Pairwise (fun c d => c.1 < d.1) ∧ ∀ c ∈ m, c.1 < 65536 ∧ c.2 ≠ Memory.fill

/-- The engine's state (10_state.md), its configuration (R5), and the environment's side of the four
interfaces (R6). INVENTORY.md lists each field with its rule and its reset value. -/
@[ext]
structure State where
  /-- The primary set A F B C D E H L (R10). -/
  main : Bank
  /-- The shadow set A' F' B' C' D' E' H' L' (R11). -/
  alt : Bank
  /-- IX (R13). -/
  ix : Word
  /-- IY (R13). -/
  iy : Word
  /-- SP (R14). -/
  sp : Word
  /-- PC (R15). -/
  pc : Word
  /-- The interrupt vector register I (R18). -/
  i : Byte
  /-- The refresh counter R (R19). -/
  r : Byte
  /-- IFF1 (R20). -/
  iff1 : Bool
  /-- IFF2 (R20). -/
  iff2 : Bool
  /-- IM (R21). -/
  im : IntMode
  /-- HALT_ST (R29). -/
  haltSt : Latch
  /-- EI_ST (R30). -/
  eiSt : Latch
  /-- The memory behind the Memory interface (R50, log 2). -/
  mem : Memory
  /-- The parameters of R5; no step changes them (log 9). -/
  cfg : Config
  /-- The signal calls of the coming gaps between steps: the head is the next gap's, in call order
  (R352, log 8). -/
  signals : List (List Signal)
  /-- The environment's answers to the coming port reads, oldest first (R57, log 3). -/
  portIn : List Byte
  /-- Every access issued so far, newest first (R62, log 6). -/
  bus : List BusAccess
  /-- The values of the coming draws of undefined flag bits, oldest first (log 4). -/
  anyIn : List Byte
  /-- How many free values have been drawn (log 4). -/
  draws : Nat
  /-- The time units the last `step()` returned (R341, R394, log 7). -/
  returned : Nat
  deriving DecidableEq, Repr

/-- Why the machine stops with a fault. -/
inductive Fault where
  /-- `DecodeFault(pc, b0, b1, b2, b3)`, raised by the step driver alone, when the look-ahead bytes
  match no row of the opcode table (R95, R343). `after` is the state it leaves: the EI-delay update
  applied and the four look-ahead reads issued. Safe: the spec itself ends the run here (log 10). -/
  | decodeFault (pc : Word) (b0 b1 b2 b3 : Byte) (after : State)
  deriving DecidableEq, Repr

/-- Why the model gives an instruction no meaning. -/
inductive Refusal where
  /-- Raised by `exec` for an instruction that has no meaning yet; in this model no arm of `exec`
  raises it. Safe: nothing can be proved about a step that is refused. -/
  | notModelled (mnemonic : String)
  deriving DecidableEq, Repr

/-- What the meaning of an instruction answers. -/
abbrev Result := Host.Outcome State Fault Refusal

/-- `RESET_UNSPEC` (R5, R40): the registers whose reset value the spec leaves arbitrary. -/
structure ResetUnspec where
  b : Byte := 0x00#8
  c : Byte := 0x00#8
  d : Byte := 0x00#8
  e : Byte := 0x00#8
  h : Byte := 0x00#8
  l : Byte := 0x00#8
  a' : Byte := 0x00#8
  f' : Flags := ⟨false, false, false, false, false, false, false, false⟩
  b' : Byte := 0x00#8
  c' : Byte := 0x00#8
  d' : Byte := 0x00#8
  e' : Byte := 0x00#8
  h' : Byte := 0x00#8
  l' : Byte := 0x00#8
  ix : Word := 0x0000#16
  iy : Word := 0x0000#16
  sp : Word := 0x0000#16
  i : Byte := 0x00#8
  deriving DecidableEq, Repr

/-- The state after reset (R40, R381) for given values of the unspecified registers. -/
def State.resetWith (u : ResetUnspec) (cfg : Config) : State where
  main := { a := 0xFF#8, f := ⟨true, true, true, true, true, true, true, true⟩,
            b := u.b, c := u.c, d := u.d, e := u.e, h := u.h, l := u.l }
  alt := { a := u.a', f := u.f', b := u.b', c := u.c', d := u.d', e := u.e', h := u.h', l := u.l' }
  ix := u.ix
  iy := u.iy
  sp := u.sp
  pc := 0x0000#16
  i := u.i
  r := 0x00#8
  iff1 := false
  iff2 := false
  im := .im0
  haltSt := .none
  eiSt := .none
  mem := []
  cfg := cfg
  signals := []
  portIn := []
  bus := []
  anyIn := []
  draws := 0
  returned := 0

/-- The machine right after reset: the unspecified registers at zero (DESIGN CHOICE, log 1) and every
parameter at its default (R5). -/
def State.reset : State := State.resetWith {} Config.default

end Sys2Proof.Machine
end

