-- ==== Sys2Proof/Syntax.lean ====
section
/-! DEFINITION. The instructions: one constructor for each row of spec/opcode_table.json, with its operands (R84 to R89). -/

namespace Sys2Proof

/-- The registers of selector `r8` (R22); its code 110 names no register. -/
inductive Reg8 where
  | b | c | d | e | h | l | a
  deriving DecidableEq, Repr

/-- The registers of selector `p8`, inside the DD space (R28). -/
inductive RegP where
  | b | c | d | e | ixh | ixl | a
  deriving DecidableEq, Repr

/-- The registers of selector `q8`, inside the FD space (R28). -/
inductive RegQ where
  | b | c | d | e | iyh | iyl | a
  deriving DecidableEq, Repr

/-- Selector `dd` (R23). -/
inductive PairDd where
  | bc | de | hl | sp
  deriving DecidableEq, Repr

/-- Selector `qq` (R24). -/
inductive PairQq where
  | bc | de | hl | af
  deriving DecidableEq, Repr

/-- Selector `pp` (R25). -/
inductive PairPp where
  | bc | de | ix | sp
  deriving DecidableEq, Repr

/-- Selector `rr` (R26). -/
inductive PairRr where
  | bc | de | iy | sp
  deriving DecidableEq, Repr

/-- The condition codes (R85). -/
inductive Cond where
  | nz | z | nc | c | po | pe | p | m
  deriving DecidableEq, Repr

/-- The eleven instruction groups (R81). -/
inductive Group where
  | load8
  | load16
  | exchangeBlock
  | generalMisc
  | arith8
  | arith16
  | rotateShift
  | bit
  | jump
  | callReturn
  | inputOutput
  deriving DecidableEq, Repr

/-- The instructions. `IndHl` stands for `(HL)`, `IndNn` for `(nn)`, `IdxIx` for `(IX+d)`, `PortC` and
`PortN` for the ports `(C)` and `(n)`. The displacements `d` and `e` are the raw operand bytes (R88, R89). The
instructions with operands come first: Lean's runtime numbers at most 245 constructors that hold data. -/
inductive Instr where
  /-- `LD r,r'` (R141). -/
  | ldRR (r : Reg8) (q : Reg8)
  /-- `LD r,n` (R142). -/
  | ldRN (r : Reg8) (n : Byte)
  /-- `LD r,(HL)` (R143). -/
  | ldRIndHl (r : Reg8)
  /-- `LD (HL),r` (R145). -/
  | ldIndHlR (r : Reg8)
  /-- `LD (HL),n` (R147). -/
  | ldIndHlN (n : Byte)
  /-- `LD A,(nn)` (R151). -/
  | ldAIndNn (nn : Word)
  /-- `LD (nn),A` (R154). -/
  | ldIndNnA (nn : Word)
  /-- `LD dd,nn` (R171). -/
  | ldDdNn (p : PairDd) (nn : Word)
  /-- `LD HL,(nn)` (R173). -/
  | ldHlIndNn (nn : Word)
  /-- `LD dd,(nn)` (R174). -/
  | ldDdIndNn (p : PairDd) (nn : Word)
  /-- `LD (nn),HL` (R176). -/
  | ldIndNnHl (nn : Word)
  /-- `LD (nn),dd` (R177). -/
  | ldIndNnDd (nn : Word) (p : PairDd)
  /-- `PUSH qq` (R181). -/
  | pushQq (p : PairQq)
  /-- `POP qq` (R183). -/
  | popQq (p : PairQq)
  /-- `ADD A,r` (R231). -/
  | addAR (r : Reg8)
  /-- `ADD A,n` (R231). -/
  | addAN (n : Byte)
  /-- `ADC A,r` (R232). -/
  | adcAR (r : Reg8)
  /-- `ADC A,n` (R232). -/
  | adcAN (n : Byte)
  /-- `SUB r` (R233). -/
  | subR (r : Reg8)
  /-- `SUB n` (R233). -/
  | subN (n : Byte)
  /-- `SBC A,r` (R234). -/
  | sbcAR (r : Reg8)
  /-- `SBC A,n` (R234). -/
  | sbcAN (n : Byte)
  /-- `AND r` (R235). -/
  | andR (r : Reg8)
  /-- `AND n` (R235). -/
  | andN (n : Byte)
  /-- `XOR r` (R236). -/
  | xorR (r : Reg8)
  /-- `XOR n` (R236). -/
  | xorN (n : Byte)
  /-- `OR r` (R237). -/
  | orR (r : Reg8)
  /-- `OR n` (R237). -/
  | orN (n : Byte)
  /-- `CP r` (R238). -/
  | cpR (r : Reg8)
  /-- `CP n` (R238). -/
  | cpN (n : Byte)
  /-- `INC r` (R239). -/
  | incR (r : Reg8)
  /-- `DEC r` (R243). -/
  | decR (r : Reg8)
  /-- `ADD HL,ss` (R251). -/
  | addHlSs (p : PairDd)
  /-- `ADC HL,ss` (R252). -/
  | adcHlSs (p : PairDd)
  /-- `SBC HL,ss` (R253). -/
  | sbcHlSs (p : PairDd)
  /-- `INC ss` (R256). -/
  | incSs (p : PairDd)
  /-- `DEC ss` (R258). -/
  | decSs (p : PairDd)
  /-- `RLC r` (R266). -/
  | rlcR (r : Reg8)
  /-- `RRC r` (R267). -/
  | rrcR (r : Reg8)
  /-- `RL r` (R268). -/
  | rlR (r : Reg8)
  /-- `RR r` (R269). -/
  | rrR (r : Reg8)
  /-- `SLA r` (R270). -/
  | slaR (r : Reg8)
  /-- `SRA r` (R271). -/
  | sraR (r : Reg8)
  /-- `SLL r` (R272). -/
  | sllR (r : Reg8)
  /-- `SRL r` (R273). -/
  | srlR (r : Reg8)
  /-- `BIT b,r` (R281). -/
  | bitBR (b : BitVec 3) (r : Reg8)
  /-- `BIT b,(HL)` (R282). -/
  | bitBIndHl (b : BitVec 3)
  /-- `SET b,r` (R284). -/
  | setBR (b : BitVec 3) (r : Reg8)
  /-- `SET b,(HL)` (R285). -/
  | setBIndHl (b : BitVec 3)
  /-- `RES b,r` (R287). -/
  | resBR (b : BitVec 3) (r : Reg8)
  /-- `RES b,(HL)` (R288). -/
  | resBIndHl (b : BitVec 3)
  /-- `JP nn` (R291). -/
  | jpNn (nn : Word)
  /-- `JP cc,nn` (R292). -/
  | jpCcNn (cc : Cond) (nn : Word)
  /-- `JR e` (R293). -/
  | jrE (e : Byte)
  /-- `JR C,e` (R294). -/
  | jrCE (e : Byte)
  /-- `JR NC,e` (R295). -/
  | jrNcE (e : Byte)
  /-- `JR Z,e` (R296). -/
  | jrZE (e : Byte)
  /-- `JR NZ,e` (R297). -/
  | jrNzE (e : Byte)
  /-- `DJNZ e` (R300). -/
  | djnzE (e : Byte)
  /-- `CALL nn` (R301). -/
  | callNn (nn : Word)
  /-- `CALL cc,nn` (R302). -/
  | callCcNn (cc : Cond) (nn : Word)
  /-- `RET cc` (R304). -/
  | retCc (cc : Cond)
  /-- `RST p` (R307). -/
  | rstP (t : BitVec 3)
  /-- `IN A,(n)` (R321). -/
  | inAPortN (n : Byte)
  /-- `IN r,(C)` (R322). -/
  | inRPortC (r : Reg8)
  /-- `OUT (n),A` (R327). -/
  | outPortNA (n : Byte)
  /-- `OUT (C),r` (R328). -/
  | outPortCR (r : Reg8)
  /-- `LD r,(IX+d)` (R144). -/
  | ldRIdxIx (r : Reg8) (d : Byte)
  /-- `LD (IX+d),r` (R146). -/
  | ldIdxIxR (d : Byte) (r : Reg8)
  /-- `LD (IX+d),n` (R148). -/
  | ldIdxIxN (d : Byte) (n : Byte)
  /-- `LD p,p' (IX)` (R159). -/
  | ldPPIx (r : RegP) (q : RegP)
  /-- `LD IXH,n` (R160). -/
  | ldIxhN (n : Byte)
  /-- `LD IXL,n` (R160). -/
  | ldIxlN (n : Byte)
  /-- `LD IX,nn` (R172). -/
  | ldIxNn (nn : Word)
  /-- `LD IX,(nn)` (R175). -/
  | ldIxIndNn (nn : Word)
  /-- `LD (nn),IX` (R178). -/
  | ldIndNnIx (nn : Word)
  /-- `ADD A,(IX+d)` (R231). -/
  | addAIdxIx (d : Byte)
  /-- `ADC A,(IX+d)` (R232). -/
  | adcAIdxIx (d : Byte)
  /-- `SUB (IX+d)` (R233). -/
  | subIdxIx (d : Byte)
  /-- `SBC A,(IX+d)` (R234). -/
  | sbcAIdxIx (d : Byte)
  /-- `AND (IX+d)` (R235). -/
  | andIdxIx (d : Byte)
  /-- `XOR (IX+d)` (R236). -/
  | xorIdxIx (d : Byte)
  /-- `OR (IX+d)` (R237). -/
  | orIdxIx (d : Byte)
  /-- `CP (IX+d)` (R238). -/
  | cpIdxIx (d : Byte)
  /-- `INC (IX+d)` (R241). -/
  | incIdxIx (d : Byte)
  /-- `DEC (IX+d)` (R245). -/
  | decIdxIx (d : Byte)
  /-- `ADD IX,pp` (R254). -/
  | addIxPp (p : PairPp)
  /-- `RLC (IX+d)` (R266). -/
  | rlcIdxIx (d : Byte)
  /-- `RLC (IX+d),r` (R266). -/
  | rlcIdxIxR (d : Byte) (r : Reg8)
  /-- `RRC (IX+d)` (R267). -/
  | rrcIdxIx (d : Byte)
  /-- `RRC (IX+d),r` (R267). -/
  | rrcIdxIxR (d : Byte) (r : Reg8)
  /-- `RL (IX+d)` (R268). -/
  | rlIdxIx (d : Byte)
  /-- `RL (IX+d),r` (R268). -/
  | rlIdxIxR (d : Byte) (r : Reg8)
  /-- `RR (IX+d)` (R269). -/
  | rrIdxIx (d : Byte)
  /-- `RR (IX+d),r` (R269). -/
  | rrIdxIxR (d : Byte) (r : Reg8)
  /-- `SLA (IX+d)` (R270). -/
  | slaIdxIx (d : Byte)
  /-- `SLA (IX+d),r` (R270). -/
  | slaIdxIxR (d : Byte) (r : Reg8)
  /-- `SRA (IX+d)` (R271). -/
  | sraIdxIx (d : Byte)
  /-- `SRA (IX+d),r` (R271). -/
  | sraIdxIxR (d : Byte) (r : Reg8)
  /-- `SLL (IX+d)` (R272). -/
  | sllIdxIx (d : Byte)
  /-- `SLL (IX+d),r` (R272). -/
  | sllIdxIxR (d : Byte) (r : Reg8)
  /-- `SRL (IX+d)` (R273). -/
  | srlIdxIx (d : Byte)
  /-- `SRL (IX+d),r` (R273). -/
  | srlIdxIxR (d : Byte) (r : Reg8)
  /-- `BIT b,(IX+d)` (R283). -/
  | bitBIdxIx (b : BitVec 3) (d : Byte)
  /-- `BIT b,(IX+d) [mirror]` (R283). -/
  | bitBIdxIxMirror (b : BitVec 3) (d : Byte) (r : Reg8)
  /-- `SET b,(IX+d)` (R286). -/
  | setBIdxIx (b : BitVec 3) (d : Byte)
  /-- `SET b,(IX+d),r` (R286). -/
  | setBIdxIxR (b : BitVec 3) (d : Byte) (r : Reg8)
  /-- `RES b,(IX+d)` (R289). -/
  | resBIdxIx (b : BitVec 3) (d : Byte)
  /-- `RES b,(IX+d),r` (R289). -/
  | resBIdxIxR (b : BitVec 3) (d : Byte) (r : Reg8)
  /-- `LD r,(IY+d)` (R144). -/
  | ldRIdxIy (r : Reg8) (d : Byte)
  /-- `LD (IY+d),r` (R146). -/
  | ldIdxIyR (d : Byte) (r : Reg8)
  /-- `LD (IY+d),n` (R148). -/
  | ldIdxIyN (d : Byte) (n : Byte)
  /-- `LD p,p' (IY)` (R159). -/
  | ldPPIy (r : RegQ) (q : RegQ)
  /-- `LD IYH,n` (R160). -/
  | ldIyhN (n : Byte)
  /-- `LD IYL,n` (R160). -/
  | ldIylN (n : Byte)
  /-- `LD IY,nn` (R172). -/
  | ldIyNn (nn : Word)
  /-- `LD IY,(nn)` (R175). -/
  | ldIyIndNn (nn : Word)
  /-- `LD (nn),IY` (R178). -/
  | ldIndNnIy (nn : Word)
  /-- `ADD A,(IY+d)` (R231). -/
  | addAIdxIy (d : Byte)
  /-- `ADC A,(IY+d)` (R232). -/
  | adcAIdxIy (d : Byte)
  /-- `SUB (IY+d)` (R233). -/
  | subIdxIy (d : Byte)
  /-- `SBC A,(IY+d)` (R234). -/
  | sbcAIdxIy (d : Byte)
  /-- `AND (IY+d)` (R235). -/
  | andIdxIy (d : Byte)
  /-- `XOR (IY+d)` (R236). -/
  | xorIdxIy (d : Byte)
  /-- `OR (IY+d)` (R237). -/
  | orIdxIy (d : Byte)
  /-- `CP (IY+d)` (R238). -/
  | cpIdxIy (d : Byte)
  /-- `INC (IY+d)` (R241). -/
  | incIdxIy (d : Byte)
  /-- `DEC (IY+d)` (R245). -/
  | decIdxIy (d : Byte)
  /-- `ADD IY,rr` (R255). -/
  | addIyRr (p : PairRr)
  /-- `RLC (IY+d)` (R266). -/
  | rlcIdxIy (d : Byte)
  /-- `RLC (IY+d),r` (R266). -/
  | rlcIdxIyR (d : Byte) (r : Reg8)
  /-- `RRC (IY+d)` (R267). -/
  | rrcIdxIy (d : Byte)
  /-- `RRC (IY+d),r` (R267). -/
  | rrcIdxIyR (d : Byte) (r : Reg8)
  /-- `RL (IY+d)` (R268). -/
  | rlIdxIy (d : Byte)
  /-- `RL (IY+d),r` (R268). -/
  | rlIdxIyR (d : Byte) (r : Reg8)
  /-- `RR (IY+d)` (R269). -/
  | rrIdxIy (d : Byte)
  /-- `RR (IY+d),r` (R269). -/
  | rrIdxIyR (d : Byte) (r : Reg8)
  /-- `SLA (IY+d)` (R270). -/
  | slaIdxIy (d : Byte)
  /-- `SLA (IY+d),r` (R270). -/
  | slaIdxIyR (d : Byte) (r : Reg8)
  /-- `SRA (IY+d)` (R271). -/
  | sraIdxIy (d : Byte)
  /-- `SRA (IY+d),r` (R271). -/
  | sraIdxIyR (d : Byte) (r : Reg8)
  /-- `SLL (IY+d)` (R272). -/
  | sllIdxIy (d : Byte)
  /-- `SLL (IY+d),r` (R272). -/
  | sllIdxIyR (d : Byte) (r : Reg8)
  /-- `SRL (IY+d)` (R273). -/
  | srlIdxIy (d : Byte)
  /-- `SRL (IY+d),r` (R273). -/
  | srlIdxIyR (d : Byte) (r : Reg8)
  /-- `BIT b,(IY+d)` (R283). -/
  | bitBIdxIy (b : BitVec 3) (d : Byte)
  /-- `BIT b,(IY+d) [mirror]` (R283). -/
  | bitBIdxIyMirror (b : BitVec 3) (d : Byte) (r : Reg8)
  /-- `SET b,(IY+d)` (R286). -/
  | setBIdxIy (b : BitVec 3) (d : Byte)
  /-- `SET b,(IY+d),r` (R286). -/
  | setBIdxIyR (b : BitVec 3) (d : Byte) (r : Reg8)
  /-- `RES b,(IY+d)` (R289). -/
  | resBIdxIy (b : BitVec 3) (d : Byte)
  /-- `RES b,(IY+d),r` (R289). -/
  | resBIdxIyR (b : BitVec 3) (d : Byte) (r : Reg8)
  /-- `LD A,(BC)` (R149). -/
  | ldAIndBc
  /-- `LD A,(DE)` (R150). -/
  | ldAIndDe
  /-- `LD (BC),A` (R152). -/
  | ldIndBcA
  /-- `LD (DE),A` (R153). -/
  | ldIndDeA
  /-- `LD A,I` (R155). -/
  | ldAI
  /-- `LD A,R` (R156). -/
  | ldAR
  /-- `LD I,A` (R157). -/
  | ldIA
  /-- `LD R,A` (R158). -/
  | ldRA
  /-- `LD SP,HL` (R179). -/
  | ldSpHl
  /-- `EX DE,HL` (R191). -/
  | exDeHl
  /-- `EX AF,AF'` (R192). -/
  | exAfAf
  /-- `EXX` (R193). -/
  | exx
  /-- `EX (SP),HL` (R194). -/
  | exIndSpHl
  /-- `LDI` (R196). -/
  | ldi
  /-- `LDIR` (R197). -/
  | ldir
  /-- `LDD` (R198). -/
  | ldd
  /-- `LDDR` (R199). -/
  | lddr
  /-- `CPI` (R200). -/
  | cpi
  /-- `CPIR` (R201). -/
  | cpir
  /-- `CPD` (R202). -/
  | cpd
  /-- `CPDR` (R203). -/
  | cpdr
  /-- `DAA` (R211). -/
  | daa
  /-- `CPL` (R212). -/
  | cpl
  /-- `NEG` (R213). -/
  | neg
  /-- `CCF` (R214). -/
  | ccf
  /-- `SCF` (R215). -/
  | scf
  /-- `NOP` (R216). -/
  | nop
  /-- `HALT` (R217). -/
  | halt
  /-- `DI` (R218). -/
  | di
  /-- `EI` (R219). -/
  | ei
  /-- `IM 0` (R220). -/
  | im0
  /-- `IM 1` (R221). -/
  | im1
  /-- `IM 2` (R222). -/
  | im2
  /-- `ADD A,(HL)` (R231). -/
  | addAIndHl
  /-- `ADC A,(HL)` (R232). -/
  | adcAIndHl
  /-- `SUB (HL)` (R233). -/
  | subIndHl
  /-- `SBC A,(HL)` (R234). -/
  | sbcAIndHl
  /-- `AND (HL)` (R235). -/
  | andIndHl
  /-- `XOR (HL)` (R236). -/
  | xorIndHl
  /-- `OR (HL)` (R237). -/
  | orIndHl
  /-- `CP (HL)` (R238). -/
  | cpIndHl
  /-- `INC (HL)` (R240). -/
  | incIndHl
  /-- `DEC (HL)` (R244). -/
  | decIndHl
  /-- `RLCA` (R261). -/
  | rlca
  /-- `RLA` (R262). -/
  | rla
  /-- `RRCA` (R263). -/
  | rrca
  /-- `RRA` (R264). -/
  | rra
  /-- `RLC (HL)` (R266). -/
  | rlcIndHl
  /-- `RRC (HL)` (R267). -/
  | rrcIndHl
  /-- `RL (HL)` (R268). -/
  | rlIndHl
  /-- `RR (HL)` (R269). -/
  | rrIndHl
  /-- `SLA (HL)` (R270). -/
  | slaIndHl
  /-- `SRA (HL)` (R271). -/
  | sraIndHl
  /-- `SLL (HL)` (R272). -/
  | sllIndHl
  /-- `SRL (HL)` (R273). -/
  | srlIndHl
  /-- `RLD` (R274). -/
  | rld
  /-- `RRD` (R275). -/
  | rrd
  /-- `JP (HL)` (R298). -/
  | jpHl
  /-- `RET` (R303). -/
  | ret
  /-- `RETI` (R305). -/
  | reti
  /-- `RETN` (R306). -/
  | retn
  /-- `INI` (R323). -/
  | ini
  /-- `INIR` (R324). -/
  | inir
  /-- `IND` (R325). -/
  | ind
  /-- `INDR` (R326). -/
  | indr
  /-- `OUTI` (R329). -/
  | outi
  /-- `OTIR` (R330). -/
  | otir
  /-- `OUTD` (R331). -/
  | outd
  /-- `OTDR` (R332). -/
  | otdr
  /-- `LD SP,IX` (R180). -/
  | ldSpIx
  /-- `PUSH IX` (R182). -/
  | pushIx
  /-- `POP IX` (R184). -/
  | popIx
  /-- `EX (SP),IX` (R195). -/
  | exIndSpIx
  /-- `ADD A,IXH` (R231). -/
  | addAIxh
  /-- `ADD A,IXL` (R231). -/
  | addAIxl
  /-- `ADC A,IXH` (R232). -/
  | adcAIxh
  /-- `ADC A,IXL` (R232). -/
  | adcAIxl
  /-- `SUB IXH` (R233). -/
  | subIxh
  /-- `SUB IXL` (R233). -/
  | subIxl
  /-- `SBC A,IXH` (R234). -/
  | sbcAIxh
  /-- `SBC A,IXL` (R234). -/
  | sbcAIxl
  /-- `AND IXH` (R235). -/
  | andIxh
  /-- `AND IXL` (R235). -/
  | andIxl
  /-- `XOR IXH` (R236). -/
  | xorIxh
  /-- `XOR IXL` (R236). -/
  | xorIxl
  /-- `OR IXH` (R237). -/
  | orIxh
  /-- `OR IXL` (R237). -/
  | orIxl
  /-- `CP IXH` (R238). -/
  | cpIxh
  /-- `CP IXL` (R238). -/
  | cpIxl
  /-- `INC IXH` (R242). -/
  | incIxh
  /-- `INC IXL` (R242). -/
  | incIxl
  /-- `DEC IXH` (R246). -/
  | decIxh
  /-- `DEC IXL` (R246). -/
  | decIxl
  /-- `INC IX` (R257). -/
  | incIx
  /-- `DEC IX` (R259). -/
  | decIx
  /-- `JP (IX)` (R299). -/
  | jpIx
  /-- `LD SP,IY` (R180). -/
  | ldSpIy
  /-- `PUSH IY` (R182). -/
  | pushIy
  /-- `POP IY` (R184). -/
  | popIy
  /-- `EX (SP),IY` (R195). -/
  | exIndSpIy
  /-- `ADD A,IYH` (R231). -/
  | addAIyh
  /-- `ADD A,IYL` (R231). -/
  | addAIyl
  /-- `ADC A,IYH` (R232). -/
  | adcAIyh
  /-- `ADC A,IYL` (R232). -/
  | adcAIyl
  /-- `SUB IYH` (R233). -/
  | subIyh
  /-- `SUB IYL` (R233). -/
  | subIyl
  /-- `SBC A,IYH` (R234). -/
  | sbcAIyh
  /-- `SBC A,IYL` (R234). -/
  | sbcAIyl
  /-- `AND IYH` (R235). -/
  | andIyh
  /-- `AND IYL` (R235). -/
  | andIyl
  /-- `XOR IYH` (R236). -/
  | xorIyh
  /-- `XOR IYL` (R236). -/
  | xorIyl
  /-- `OR IYH` (R237). -/
  | orIyh
  /-- `OR IYL` (R237). -/
  | orIyl
  /-- `CP IYH` (R238). -/
  | cpIyh
  /-- `CP IYL` (R238). -/
  | cpIyl
  /-- `INC IYH` (R242). -/
  | incIyh
  /-- `INC IYL` (R242). -/
  | incIyl
  /-- `DEC IYH` (R246). -/
  | decIyh
  /-- `DEC IYL` (R246). -/
  | decIyl
  /-- `INC IY` (R257). -/
  | incIy
  /-- `DEC IY` (R259). -/
  | decIy
  /-- `JP (IY)` (R299). -/
  | jpIy
  deriving DecidableEq, Repr

end Sys2Proof
end

