-- ==== Sys2Proof/Machine/Operands.lean ====
section
/-! DEFINITION. Register access: pairs as views of two registers (R12), index halves (R13), the selectors (R22 to R28), the byte view of F (R16), effective addresses (R88), conditions (R290). -/

namespace Sys2Proof.Machine

/-- F as a byte: S Z Y H X PV N C in bits 7..0 (R16). -/
def Flags.toByte (f : Flags) : Byte :=
  BitVec.ofBool f.s ++ BitVec.ofBool f.z ++ BitVec.ofBool f.y ++ BitVec.ofBool f.h
    ++ BitVec.ofBool f.x ++ BitVec.ofBool f.pv ++ BitVec.ofBool f.n ++ BitVec.ofBool f.c

/-- The flags a byte holds (R16, R183). -/
def Flags.ofByte (v : Byte) : Flags where
  s := v.getLsbD 7
  z := v.getLsbD 6
  y := v.getLsbD 5
  h := v.getLsbD 4
  x := v.getLsbD 3
  pv := v.getLsbD 2
  n := v.getLsbD 1
  c := v.getLsbD 0

/-! ### Pairs of a bank (R12): the high register first -/

def Bank.af (m : Bank) : Word := pair m.a m.f.toByte

def Bank.bc (m : Bank) : Word := pair m.b m.c

def Bank.de (m : Bank) : Word := pair m.d m.e

def Bank.hl (m : Bank) : Word := pair m.h m.l

def Bank.setAf (m : Bank) (v : Word) : Bank := { m with a := hi v, f := Flags.ofByte (lo v) }

def Bank.setBc (m : Bank) (v : Word) : Bank := { m with b := hi v, c := lo v }

def Bank.setDe (m : Bank) (v : Word) : Bank := { m with d := hi v, e := lo v }

def Bank.setHl (m : Bank) (v : Word) : Bank := { m with h := hi v, l := lo v }

namespace State

/-! ### Reading and writing single registers -/

def setA (s : State) (v : Byte) : State := { s with main := { s.main with a := v } }

def setB (s : State) (v : Byte) : State := { s with main := { s.main with b := v } }

def setF (s : State) (f : Flags) : State := { s with main := { s.main with f := f } }

def setBc (s : State) (v : Word) : State := { s with main := s.main.setBc v }

def setDe (s : State) (v : Word) : State := { s with main := s.main.setDe v }

def setHl (s : State) (v : Word) : State := { s with main := s.main.setHl v }

def setAf (s : State) (v : Word) : State := { s with main := s.main.setAf v }

def setIx (s : State) (v : Word) : State := { s with ix := v }

def setIy (s : State) (v : Word) : State := { s with iy := v }

def setSp (s : State) (v : Word) : State := { s with sp := v }

/-! ### Index halves (R13): `IXH` = `IX[15:8]`, `IXL` = `IX[7:0]` -/

def ixh (s : State) : Byte := hi s.ix

def ixl (s : State) : Byte := lo s.ix

def iyh (s : State) : Byte := hi s.iy

def iyl (s : State) : Byte := lo s.iy

def setIxh (s : State) (v : Byte) : State := { s with ix := pair v (lo s.ix) }

def setIxl (s : State) (v : Byte) : State := { s with ix := pair (hi s.ix) v }

def setIyh (s : State) (v : Byte) : State := { s with iy := pair v (lo s.iy) }

def setIyl (s : State) (v : Byte) : State := { s with iy := pair (hi s.iy) v }

/-! ### Selectors -/

/-- `r8[k]` (R22). -/
def getR8 (s : State) : Reg8 → Byte
  | .b => s.main.b
  | .c => s.main.c
  | .d => s.main.d
  | .e => s.main.e
  | .h => s.main.h
  | .l => s.main.l
  | .a => s.main.a

/-- `r8[k] <- v` (R22). -/
def setR8 (s : State) (r : Reg8) (v : Byte) : State :=
  match r with
  | .b => { s with main := { s.main with b := v } }
  | .c => { s with main := { s.main with c := v } }
  | .d => { s with main := { s.main with d := v } }
  | .e => { s with main := { s.main with e := v } }
  | .h => { s with main := { s.main with h := v } }
  | .l => { s with main := { s.main with l := v } }
  | .a => { s with main := { s.main with a := v } }

/-- `p8[k]`, inside the DD space (R28). -/
def getP8 (s : State) : RegP → Byte
  | .b => s.main.b
  | .c => s.main.c
  | .d => s.main.d
  | .e => s.main.e
  | .ixh => s.ixh
  | .ixl => s.ixl
  | .a => s.main.a

/-- `p8[k] <- v` (R28). -/
def setP8 (s : State) (r : RegP) (v : Byte) : State :=
  match r with
  | .b => s.setR8 .b v
  | .c => s.setR8 .c v
  | .d => s.setR8 .d v
  | .e => s.setR8 .e v
  | .ixh => s.setIxh v
  | .ixl => s.setIxl v
  | .a => s.setR8 .a v

/-- `q8[k]`, inside the FD space (R28). -/
def getQ8 (s : State) : RegQ → Byte
  | .b => s.main.b
  | .c => s.main.c
  | .d => s.main.d
  | .e => s.main.e
  | .iyh => s.iyh
  | .iyl => s.iyl
  | .a => s.main.a

/-- `q8[k] <- v` (R28). -/
def setQ8 (s : State) (r : RegQ) (v : Byte) : State :=
  match r with
  | .b => s.setR8 .b v
  | .c => s.setR8 .c v
  | .d => s.setR8 .d v
  | .e => s.setR8 .e v
  | .iyh => s.setIyh v
  | .iyl => s.setIyl v
  | .a => s.setR8 .a v

/-- `dd[k]` (R23). -/
def getDd (s : State) : PairDd → Word
  | .bc => s.main.bc
  | .de => s.main.de
  | .hl => s.main.hl
  | .sp => s.sp

/-- `dd[k] <- v` (R23). -/
def setDd (s : State) (p : PairDd) (v : Word) : State :=
  match p with
  | .bc => s.setBc v
  | .de => s.setDe v
  | .hl => s.setHl v
  | .sp => s.setSp v

/-- `qq[k]` (R24). -/
def getQq (s : State) : PairQq → Word
  | .bc => s.main.bc
  | .de => s.main.de
  | .hl => s.main.hl
  | .af => s.main.af

/-- `qq[k] <- v` (R24, R183). -/
def setQq (s : State) (p : PairQq) (v : Word) : State :=
  match p with
  | .bc => s.setBc v
  | .de => s.setDe v
  | .hl => s.setHl v
  | .af => s.setAf v

/-- `pp[k]` (R25). -/
def getPp (s : State) : PairPp → Word
  | .bc => s.main.bc
  | .de => s.main.de
  | .ix => s.ix
  | .sp => s.sp

/-- `rr[k]` (R26). -/
def getRr (s : State) : PairRr → Word
  | .bc => s.main.bc
  | .de => s.main.de
  | .iy => s.iy
  | .sp => s.sp

/-! ### Effective addresses and conditions -/

/-- `EA = IX + sext_16(d)`, modulo 2^16 (R88). -/
def eaIx (s : State) (d : Byte) : Word := s.ix + sext16 d

/-- `EA = IY + sext_16(d)`, modulo 2^16 (R88). -/
def eaIy (s : State) (d : Byte) : Word := s.iy + sext16 d

/-- `cond(c)` (R85, R290): it reads one flag bit and nothing else. -/
def cond (s : State) : Cond → Bool
  | .nz => !s.main.f.z
  | .z => s.main.f.z
  | .nc => !s.main.f.c
  | .c => s.main.f.c
  | .po => !s.main.f.pv
  | .pe => s.main.f.pv
  | .p => !s.main.f.s
  | .m => s.main.f.s

end State

end Sys2Proof.Machine
end

