-- ==== Sys2Proof/Machine/Ops.lean ====
section
/-! DEFINITION. The shared operations: memory and port access (R52, R53, R57), the stack (R69), how a step ends (R15, R341), free values, and taking an interrupt and returning (R346, R348, R353). -/

namespace Sys2Proof.Machine

/-! ### Memory contents -/

/-- The byte at an address. -/
def Memory.read : Memory → Nat → Byte
  | [], _ => Memory.fill
  | c :: m, a => if c.1 = a then c.2 else Memory.read m a

/-- The list with a byte that must be listed put in its place. -/
def Memory.insert : Memory → Nat → Byte → Memory
  | [], a, v => [(a, v)]
  | c :: m, a, v =>
    if a < c.1 then (a, v) :: c :: m
    else if c.1 = a then (a, v) :: m
    else c :: Memory.insert m a v

/-- The list without an address. -/
def Memory.erase (m : Memory) (a : Nat) : Memory := m.filter (fun c => c.1 != a)

/-- The contents after a write. It keeps the canonical form: the byte an unlisted address reads as
is not listed. -/
def Memory.write (m : Memory) (a : Nat) (v : Byte) : Memory :=
  if v = Memory.fill then m.erase a else m.insert a v

namespace State

/-- The byte the memory holds at `a`, without an access. -/
def peek (s : State) (a : Word) : Byte := s.mem.read a.toNat

/-- Record an access (R62, log 6). -/
def record (s : State) (e : BusAccess) : State := { s with bus := e :: s.bus }

/-! ### The access primitives -/

/-- `MemRead(addr, 1)`: one read of the Memory interface (R52). -/
def memRead (s : State) (a : Word) : Byte × State := (s.peek a, s.record (.memRead a (s.peek a)))

/-- `MemWrite(addr, 1, v)`: one write of the Memory interface (R52). -/
def memWrite (s : State) (a : Word) (v : Byte) : State :=
  { s with mem := s.mem.write a.toNat v, bus := .memWrite a v :: s.bus }

/-- `MemRead(addr, 2)`: the low byte at the lower address, read first; `addr+1` wraps (R53). -/
def memRead16 (s : State) (a : Word) : Word × State :=
  let (l, s1) := s.memRead a
  let (h, s2) := s1.memRead (a + 1)
  (pair h l, s2)

/-- `MemWrite(addr, 2, v)`: the low byte at the lower address, written first; `addr+1` wraps (R53). -/
def memWrite16 (s : State) (a v : Word) : State := (s.memWrite a (lo v)).memWrite (a + 1) (hi v)

/-- What the environment answers to the next port read (R57): the answer given in advance, else a
free value (log 3). -/
def portAnswer (s : State) (p : Word) : Byte :=
  match s.portIn with
  | [] => Config.anyPort s.draws p
  | v :: _ => v

/-- `PortRead(port)` (R57): the answer is used up. -/
def portRead (s : State) (p : Word) : Byte × State :=
  (s.portAnswer p,
    { s with portIn := s.portIn.tail, draws := s.draws + 1,
             bus := .portRead p (s.portAnswer p) :: s.bus })

/-- `PortWrite(port, v)` (R57). -/
def portWrite (s : State) (p : Word) (v : Byte) : State := s.record (.portWrite p v)

/-! ### The stack (R69) -/

/-- `push16(v)`: the high byte at SP-1 first, then the low byte at SP-2 (R69, R181). -/
def push16 (s : State) (v : Word) : State :=
  ((s.memWrite (s.sp - 1) (hi v)).memWrite (s.sp - 2) (lo v)).setSp (s.sp - 2)

/-- `pop16()`: the low byte at SP first, then the high byte at SP+1 (R69, R183). -/
def pop16 (s : State) : Word × State :=
  let (v, s1) := s.memRead16 s.sp
  (v, s1.setSp (s.sp + 2))

/-! ### How an instruction ends (R15, R341) -/

/-- `npc` of an instruction of `len` bytes: `PC + len` modulo 2^16 (R7). -/
def npc (s : State) (len : Nat) : Word := s.pc + BitVec.ofNat 16 len

/-- `PC <- target`, and the time returned. -/
def jump (s : State) (target : Word) (time : Nat) : State := { s with pc := target, returned := time }

/-- `PC <- npc`, and the time returned. -/
def finish (s : State) (len time : Nat) : State := s.jump (s.npc len) time

/-- `PC` unchanged, and the time returned: HALT while waiting (R217), a block instruction that
repeats (R197). -/
def hold (s : State) (time : Nat) : State := { s with returned := time }

/-- The target of a relative jump of length 2: `npc + sext_16(e)` (R89). -/
def relTarget (s : State) (e : Byte) : Word := s.npc 2 + sext16 e

/-- A relative jump taken when `b` holds (R293 to R297). -/
def jumpRelIf (s : State) (b : Bool) (e : Byte) (taken notTaken : Nat) : State :=
  if b then s.jump (s.relTarget e) taken else s.finish 2 notTaken

/-- A call: push `npc`, go to the target (R301, R307). -/
def call (s : State) (len : Nat) (target : Word) (time : Nat) : State :=
  (s.push16 (s.npc len)).jump target time

/-- A return: `PC <- pop16()` (R303). -/
def ret (s : State) (time : Nat) : State :=
  let (v, s1) := s.pop16
  s1.jump v time

/-! ### Free values (R127, R324) -/

/-- The byte of the next draw: the value given in advance, else a free value (log 4). -/
def nextDraw (s : State) : Byte :=
  match s.anyIn with
  | [] => Config.anyFlags s.draws
  | v :: _ => v

/-- Use up a draw. -/
def drawn (s : State) : State := { s with anyIn := s.anyIn.tail, draws := s.draws + 1 }

/-- The F an instruction with computed flags leaves: the six flags of `f`, bits 5 and 3 free (R127). -/
def withAnyXY (f : Flags) (v : Byte) : Flags := { f with y := v.getLsbD 5, x := v.getLsbD 3 }

/-- As `withAnyXY`, with H and PV free as well (R324, R326, R330, R332). -/
def withAnyXYHPv (f : Flags) (v : Byte) : Flags :=
  { withAnyXY f v with h := v.getLsbD 4, pv := v.getLsbD 2 }

/-- `F <- F'` for computed flags (R127). -/
def putFlags (s : State) (f : Flags) : State := s.drawn.setF (withAnyXY f s.nextDraw)

/-- `F <- F'` where H and PV are `any` too (R324). -/
def putFlagsAnyHPv (s : State) (f : Flags) : State := s.drawn.setF (withAnyXYHPv f s.nextDraw)

/-! ### Taking an interrupt and returning from one -/

/-- Taking an interrupt, shared by both entries: push PC, go to the vector (R354). -/
def enter (s : State) (vector : Word) : State := { s.push16 s.pc with pc := vector }

/-- `signal_nmi()` (R346). -/
def signalNmi (s : State) : State :=
  if s.haltSt = .waiting then { s with haltSt := .satisfied }
  else { s.enter s.cfg.nmiVector with iff2 := s.iff1, iff1 := false }

/-- `signal_int()` (R348): `IM` is not consulted (R351). -/
def signalInt (s : State) : State :=
  if s.haltSt = .waiting then { s with haltSt := .satisfied }
  else if s.iff1 then { s.enter s.cfg.intVector with iff1 := false, iff2 := false }
  else s

/-- One call of a signal entry point. -/
def signal (s : State) : Signal → State
  | .nmi => s.signalNmi
  | .int => s.signalInt

/-- The calls of one gap, in call order, each acting on the state the one before left (R352). -/
def signalAll : List Signal → State → State
  | [], s => s
  | x :: xs, s => signalAll xs (s.signal x)

/-- The environment's calls in the coming gap between steps (R352, log 8). -/
def deliver (s : State) : State :=
  signalAll (s.signals.headD []) { s with signals := s.signals.tail }

/-- RETN's return: `IFF1 <- IFF2` besides the return (R306, R353). -/
def retn (s : State) (time : Nat) : State := { s.ret time with iff1 := s.iff2 }

/-- RETI's return: it copies IFF2 only where the configuration says so (R305). -/
def reti (s : State) (time : Nat) : State :=
  if s.cfg.retiCopiesIff2 then s.retn time else s.ret time

end State

end Sys2Proof.Machine
end

