-- ==== Sys2Proof/Machine/Flags.lean ====
section
/-! DEFINITION. The ALU (40_alu.md): each function gives a result and the new F. Bits 5 and 3 of the F given are the old ones; `State.putFlags` replaces them by free values (R127). -/

namespace Sys2Proof.Machine

/-- `add8(a, b, cin)` (R113): ADD, ADC. -/
def add8 (a b : Byte) (cin : Bool) (f : Flags) : Byte × Flags :=
  let sum := a.toNat + b.toNat + cin.toNat
  let res := BitVec.ofNat 8 sum
  (res, { f with
    s := res.msb
    z := res == 0
    h := decide (a.toNat % 16 + b.toNat % 16 + cin.toNat > 15)
    pv := (a.msb == b.msb) && (res.msb != a.msb)
    n := false
    c := decide (sum > 255) })

/-- `sub8(a, b, cin)` (R114): SUB, SBC, CP, NEG. -/
def sub8 (a b : Byte) (cin : Bool) (f : Flags) : Byte × Flags :=
  let res := a - b - BitVec.ofNat 8 cin.toNat
  (res, { f with
    s := res.msb
    z := res == 0
    h := decide (a.toNat % 16 < b.toNat % 16 + cin.toNat)
    pv := (a.msb != b.msb) && (res.msb != a.msb)
    n := true
    c := decide (a.toNat < b.toNat + cin.toNat) })

/-- The flags of a logical operation's result (R115): `h` is 1 for AND, 0 for OR and XOR. -/
def logicFlags (res : Byte) (h : Bool) (f : Flags) : Flags :=
  { f with s := res.msb, z := res == 0, h := h, pv := parity8 res, n := false, c := false }

/-- `inc8(v)` (R117). -/
def inc8 (v : Byte) (f : Flags) : Byte × Flags :=
  let res := v + 1
  (res, { f with
    s := res.msb, z := res == 0, h := v.toNat % 16 == 15, pv := v == 0x7F#8, n := false })

/-- `dec8(v)` (R118). -/
def dec8 (v : Byte) (f : Flags) : Byte × Flags :=
  let res := v - 1
  (res, { f with
    s := res.msb, z := res == 0, h := v.toNat % 16 == 0, pv := v == 0x80#8, n := true })

/-- The eight accumulator operations of the field `ooo` (R230). -/
inductive AccOp where
  | add
  | adc
  | sub
  | sbc
  | and
  | xor
  | or
  | cp
  deriving DecidableEq, Repr

/-- What A and F become under an accumulator operation with operand `v` (R231 to R238). `CP` leaves
A as it is (R116). -/
def acc8 (op : AccOp) (a v : Byte) (f : Flags) : Byte × Flags :=
  match op with
  | .add => add8 a v false f
  | .adc => add8 a v f.c f
  | .sub => sub8 a v false f
  | .sbc => sub8 a v f.c f
  | .and => (a &&& v, logicFlags (a &&& v) true f)
  | .xor => (a ^^^ v, logicFlags (a ^^^ v) false f)
  | .or => (a ||| v, logicFlags (a ||| v) false f)
  | .cp => (a, (sub8 a v false f).2)

/-- `add16(a, b)` (R119): S, Z, PV unchanged. -/
def add16 (a b : Word) (f : Flags) : Word × Flags :=
  (a + b, { f with
    h := decide (a.toNat % 4096 + b.toNat % 4096 > 4095)
    n := false
    c := decide (a.toNat + b.toNat > 65535) })

/-- `adc16(a, b, cin)` (R120), with `cin` the old carry. -/
def adc16 (a b : Word) (f : Flags) : Word × Flags :=
  let sum := a.toNat + b.toNat + f.c.toNat
  let res := BitVec.ofNat 16 sum
  (res, { f with
    s := res.msb
    z := res == 0
    h := decide (a.toNat % 4096 + b.toNat % 4096 + f.c.toNat > 4095)
    pv := (a.msb == b.msb) && (res.msb != a.msb)
    n := false
    c := decide (sum > 65535) })

/-- `sbc16(a, b, cin)` (R121), with `cin` the old carry. -/
def sbc16 (a b : Word) (f : Flags) : Word × Flags :=
  let res := a - b - BitVec.ofNat 16 f.c.toNat
  (res, { f with
    s := res.msb
    z := res == 0
    h := decide (a.toNat % 4096 < b.toNat % 4096 + f.c.toNat)
    pv := (a.msb != b.msb) && (res.msb != a.msb)
    n := true
    c := decide (a.toNat < b.toNat + f.c.toNat) })

/-- The eight rotates and shifts of the field `ooo` (R123, R265). -/
inductive RotOp where
  | rlc
  | rrc
  | rl
  | rr
  | sla
  | sra
  | sll
  | srl
  deriving DecidableEq, Repr

/-- A bit as the lowest bit of a byte. -/
def bit0 (b : Bool) : Byte := BitVec.ofNat 8 b.toNat

/-- `rot(op, v, cin)`: the result and the bit shifted out (R123). -/
def rot (op : RotOp) (v : Byte) (cin : Bool) : Byte × Bool :=
  match op with
  | .rlc => ((v <<< 1) ||| bit0 v.msb, v.msb)
  | .rrc => ((v >>> 1) ||| (bit0 (v.getLsbD 0) <<< 7), v.getLsbD 0)
  | .rl => ((v <<< 1) ||| bit0 cin, v.msb)
  | .rr => ((v >>> 1) ||| (bit0 cin <<< 7), v.getLsbD 0)
  | .sla => (v <<< 1, v.msb)
  | .sra => ((v >>> 1) ||| (v &&& 0x80#8), v.getLsbD 0)
  | .sll => ((v <<< 1) ||| 1#8, v.msb)
  | .srl => (v >>> 1, v.getLsbD 0)

/-- The result and flags of a prefixed rotate or shift (R124). -/
def rot8 (op : RotOp) (v : Byte) (f : Flags) : Byte × Flags :=
  let (res, cout) := rot op v f.c
  (res, { f with
    s := res.msb, z := res == 0, h := false, pv := parity8 res, n := false, c := cout })

/-- The result and flags of a one-byte accumulator rotate: S, Z, PV unchanged (R125). -/
def rotA (op : RotOp) (a : Byte) (f : Flags) : Byte × Flags :=
  let (res, cout) := rot op a f.c
  (res, { f with h := false, n := false, c := cout })

/-- `bittest(b, v)` (R126). -/
def bittest (b : BitVec 3) (v : Byte) (f : Flags) : Flags :=
  let t := v.getLsbD b.toNat
  { f with s := t && (b == 7#3), z := !t, h := true, pv := !t, n := false }

/-- S, Z from a byte moved, H = N = 0, PV given, C unchanged: IN r,(C) (R322), LD A,I (R155), LD A,R
(R156), RLD and RRD (R274). -/
def moveFlags (v : Byte) (pv : Bool) (f : Flags) : Flags :=
  { f with s := v.msb, z := v == 0, h := false, pv := pv, n := false }

/-- `DAA` (R211): the new A and F. -/
def daa (a : Byte) (f : Flags) : Byte × Flags :=
  let low := a.toNat % 16
  let corrLow : Byte := if f.h || decide (low > 9) then 0x06#8 else 0x00#8
  let c' := f.c || decide (a.toNat > 0x99)
  let corr : Byte := if c' then corrLow + 0x60#8 else corrLow
  let res := if f.n then a - corr else a + corr
  let h' := if f.n then f.h && decide (low < 6) else decide (low > 9)
  (res, { f with s := res.msb, z := res == 0, h := h', pv := parity8 res, c := c' })

/-- The flags of a block transfer with `BC` already counted down (R196). -/
def transferFlags (bc : Word) (f : Flags) : Flags :=
  { f with h := false, pv := bc != 0, n := false }

/-- The flags of a block search: S, Z, H of `A - v`, PV from the new `BC`, C unchanged (R200). -/
def searchFlags (a v : Byte) (bc : Word) (f : Flags) : Flags :=
  { (sub8 a v false f).2 with pv := bc != 0, c := f.c }

/-- The flags of block input and output: `k` the sum the rule names, `v` the byte moved, `b` the new B
(R323, R329). -/
def blockIoFlags (k : Nat) (v b : Byte) (f : Flags) : Flags :=
  { f with
    s := b.msb
    z := b == 0
    h := decide (k > 255)
    pv := parity8 (BitVec.ofNat 8 (k % 8) ^^^ b)
    n := v.msb
    c := decide (k > 255) }

end Sys2Proof.Machine
end

