-- ==== Sys2Proof/Machine/Arith16.lean ====
section
/-! DEFINITION. The meanings of the 16-bit arithmetic group (45_arith16.md). -/

namespace Sys2Proof.Machine

namespace State

/-- `ADD HL,ss`: HL and F after the addition (R251). -/
def addHl (s : State) (v : Word) : State :=
  let (res, f) := add16 s.main.hl v s.main.f
  (s.setHl res).putFlags f

end State

/-- R251 `ADD HL,ss`. -/
def execAddHlSs (p : PairDd) (s : State) : Result :=
  .next ((s.addHl (s.getDd p)).finish 1 11)

/-- R252 `ADC HL,ss`. -/
def execAdcHlSs (p : PairDd) (s : State) : Result :=
  let (res, f) := adc16 s.main.hl (s.getDd p) s.main.f
  .next (((s.setHl res).putFlags f).finish 2 15)

/-- R253 `SBC HL,ss`. -/
def execSbcHlSs (p : PairDd) (s : State) : Result :=
  let (res, f) := sbc16 s.main.hl (s.getDd p) s.main.f
  .next (((s.setHl res).putFlags f).finish 2 15)

/-- R256 `INC ss`. -/
def execIncSs (p : PairDd) (s : State) : Result :=
  .next ((s.setDd p (s.getDd p + 1)).finish 1 6)

/-- R258 `DEC ss`. -/
def execDecSs (p : PairDd) (s : State) : Result :=
  .next ((s.setDd p (s.getDd p - 1)).finish 1 6)

/-- R254 `ADD IX,pp`. -/
def execAddIxPp (p : PairPp) (s : State) : Result :=
  let (res, f) := add16 s.ix (s.getPp p) s.main.f
  .next (((s.setIx res).putFlags f).finish 2 15)

/-- R257 `INC IX`. -/
def execIncIx (s : State) : Result :=
  .next ((s.setIx (s.ix + 1)).finish 2 10)

/-- R259 `DEC IX`. -/
def execDecIx (s : State) : Result :=
  .next ((s.setIx (s.ix - 1)).finish 2 10)

/-- R255 `ADD IY,rr`. -/
def execAddIyRr (p : PairRr) (s : State) : Result :=
  let (res, f) := add16 s.iy (s.getRr p) s.main.f
  .next (((s.setIy res).putFlags f).finish 2 15)

/-- R257 `INC IY`. -/
def execIncIy (s : State) : Result :=
  .next ((s.setIy (s.iy + 1)).finish 2 10)

/-- R259 `DEC IY`. -/
def execDecIy (s : State) : Result :=
  .next ((s.setIy (s.iy - 1)).finish 2 10)

end Sys2Proof.Machine
end

