-- ==== Sys2Proof/Machine/Arith8.lean ====
section
/-! DEFINITION. The meanings of the 8-bit arithmetic and logic group (44_arith8.md). -/

namespace Sys2Proof.Machine

namespace State

/-- `A` and `F` after an accumulator operation with operand `v` (R230). -/
def acc (s : State) (op : AccOp) (v : Byte) : State :=
  let (res, f) := acc8 op s.main.a v s.main.f
  (s.setA res).putFlags f

/-- `INC` of a memory byte: one read, then one write of the same address (R240, R241). -/
def incMem (s : State) (a : Word) : State :=
  let (v, s1) := s.memRead a
  let (res, f) := inc8 v s.main.f
  (s1.memWrite a res).putFlags f

/-- `DEC` of a memory byte (R244, R245). -/
def decMem (s : State) (a : Word) : State :=
  let (v, s1) := s.memRead a
  let (res, f) := dec8 v s.main.f
  (s1.memWrite a res).putFlags f

end State

/-- R231 `ADD A,r`. -/
def execAddAR (r : Reg8) (s : State) : Result :=
  .next ((s.acc .add (s.getR8 r)).finish 1 4)

/-- R231 `ADD A,n`. -/
def execAddAN (n : Byte) (s : State) : Result :=
  .next ((s.acc .add n).finish 2 7)

/-- R231 `ADD A,(HL)`. -/
def execAddAIndHl (s : State) : Result :=
  let (v, s1) := s.memRead s.main.hl
  .next ((s1.acc .add v).finish 1 7)

/-- R232 `ADC A,r`. -/
def execAdcAR (r : Reg8) (s : State) : Result :=
  .next ((s.acc .adc (s.getR8 r)).finish 1 4)

/-- R232 `ADC A,n`. -/
def execAdcAN (n : Byte) (s : State) : Result :=
  .next ((s.acc .adc n).finish 2 7)

/-- R232 `ADC A,(HL)`. -/
def execAdcAIndHl (s : State) : Result :=
  let (v, s1) := s.memRead s.main.hl
  .next ((s1.acc .adc v).finish 1 7)

/-- R233 `SUB r`. -/
def execSubR (r : Reg8) (s : State) : Result :=
  .next ((s.acc .sub (s.getR8 r)).finish 1 4)

/-- R233 `SUB n`. -/
def execSubN (n : Byte) (s : State) : Result :=
  .next ((s.acc .sub n).finish 2 7)

/-- R233 `SUB (HL)`. -/
def execSubIndHl (s : State) : Result :=
  let (v, s1) := s.memRead s.main.hl
  .next ((s1.acc .sub v).finish 1 7)

/-- R234 `SBC A,r`. -/
def execSbcAR (r : Reg8) (s : State) : Result :=
  .next ((s.acc .sbc (s.getR8 r)).finish 1 4)

/-- R234 `SBC A,n`. -/
def execSbcAN (n : Byte) (s : State) : Result :=
  .next ((s.acc .sbc n).finish 2 7)

/-- R234 `SBC A,(HL)`. -/
def execSbcAIndHl (s : State) : Result :=
  let (v, s1) := s.memRead s.main.hl
  .next ((s1.acc .sbc v).finish 1 7)

/-- R235 `AND r`. -/
def execAndR (r : Reg8) (s : State) : Result :=
  .next ((s.acc .and (s.getR8 r)).finish 1 4)

/-- R235 `AND n`. -/
def execAndN (n : Byte) (s : State) : Result :=
  .next ((s.acc .and n).finish 2 7)

/-- R235 `AND (HL)`. -/
def execAndIndHl (s : State) : Result :=
  let (v, s1) := s.memRead s.main.hl
  .next ((s1.acc .and v).finish 1 7)

/-- R236 `XOR r`. -/
def execXorR (r : Reg8) (s : State) : Result :=
  .next ((s.acc .xor (s.getR8 r)).finish 1 4)

/-- R236 `XOR n`. -/
def execXorN (n : Byte) (s : State) : Result :=
  .next ((s.acc .xor n).finish 2 7)

/-- R236 `XOR (HL)`. -/
def execXorIndHl (s : State) : Result :=
  let (v, s1) := s.memRead s.main.hl
  .next ((s1.acc .xor v).finish 1 7)

/-- R237 `OR r`. -/
def execOrR (r : Reg8) (s : State) : Result :=
  .next ((s.acc .or (s.getR8 r)).finish 1 4)

/-- R237 `OR n`. -/
def execOrN (n : Byte) (s : State) : Result :=
  .next ((s.acc .or n).finish 2 7)

/-- R237 `OR (HL)`. -/
def execOrIndHl (s : State) : Result :=
  let (v, s1) := s.memRead s.main.hl
  .next ((s1.acc .or v).finish 1 7)

/-- R238 `CP r`. -/
def execCpR (r : Reg8) (s : State) : Result :=
  .next ((s.acc .cp (s.getR8 r)).finish 1 4)

/-- R238 `CP n`. -/
def execCpN (n : Byte) (s : State) : Result :=
  .next ((s.acc .cp n).finish 2 7)

/-- R238 `CP (HL)`. -/
def execCpIndHl (s : State) : Result :=
  let (v, s1) := s.memRead s.main.hl
  .next ((s1.acc .cp v).finish 1 7)

/-- R239 `INC r`. -/
def execIncR (r : Reg8) (s : State) : Result :=
  let (res, f) := inc8 (s.getR8 r) s.main.f
  .next (((s.setR8 r res).putFlags f).finish 1 4)

/-- R240 `INC (HL)`. -/
def execIncIndHl (s : State) : Result :=
  .next ((s.incMem s.main.hl).finish 1 11)

/-- R243 `DEC r`. -/
def execDecR (r : Reg8) (s : State) : Result :=
  let (res, f) := dec8 (s.getR8 r) s.main.f
  .next (((s.setR8 r res).putFlags f).finish 1 4)

/-- R244 `DEC (HL)`. -/
def execDecIndHl (s : State) : Result :=
  .next ((s.decMem s.main.hl).finish 1 11)

/-- R231 `ADD A,(IX+d)`. -/
def execAddAIdxIx (d : Byte) (s : State) : Result :=
  let (v, s1) := s.memRead (s.eaIx d)
  .next ((s1.acc .add v).finish 3 19)

/-- R231 `ADD A,IXH`. -/
def execAddAIxh (s : State) : Result :=
  .next ((s.acc .add s.ixh).finish 2 8)

/-- R231 `ADD A,IXL`. -/
def execAddAIxl (s : State) : Result :=
  .next ((s.acc .add s.ixl).finish 2 8)

/-- R232 `ADC A,(IX+d)`. -/
def execAdcAIdxIx (d : Byte) (s : State) : Result :=
  let (v, s1) := s.memRead (s.eaIx d)
  .next ((s1.acc .adc v).finish 3 19)

/-- R232 `ADC A,IXH`. -/
def execAdcAIxh (s : State) : Result :=
  .next ((s.acc .adc s.ixh).finish 2 8)

/-- R232 `ADC A,IXL`. -/
def execAdcAIxl (s : State) : Result :=
  .next ((s.acc .adc s.ixl).finish 2 8)

/-- R233 `SUB (IX+d)`. -/
def execSubIdxIx (d : Byte) (s : State) : Result :=
  let (v, s1) := s.memRead (s.eaIx d)
  .next ((s1.acc .sub v).finish 3 19)

/-- R233 `SUB IXH`. -/
def execSubIxh (s : State) : Result :=
  .next ((s.acc .sub s.ixh).finish 2 8)

/-- R233 `SUB IXL`. -/
def execSubIxl (s : State) : Result :=
  .next ((s.acc .sub s.ixl).finish 2 8)

/-- R234 `SBC A,(IX+d)`. -/
def execSbcAIdxIx (d : Byte) (s : State) : Result :=
  let (v, s1) := s.memRead (s.eaIx d)
  .next ((s1.acc .sbc v).finish 3 19)

/-- R234 `SBC A,IXH`. -/
def execSbcAIxh (s : State) : Result :=
  .next ((s.acc .sbc s.ixh).finish 2 8)

/-- R234 `SBC A,IXL`. -/
def execSbcAIxl (s : State) : Result :=
  .next ((s.acc .sbc s.ixl).finish 2 8)

/-- R235 `AND (IX+d)`. -/
def execAndIdxIx (d : Byte) (s : State) : Result :=
  let (v, s1) := s.memRead (s.eaIx d)
  .next ((s1.acc .and v).finish 3 19)

/-- R235 `AND IXH`. -/
def execAndIxh (s : State) : Result :=
  .next ((s.acc .and s.ixh).finish 2 8)

/-- R235 `AND IXL`. -/
def execAndIxl (s : State) : Result :=
  .next ((s.acc .and s.ixl).finish 2 8)

/-- R236 `XOR (IX+d)`. -/
def execXorIdxIx (d : Byte) (s : State) : Result :=
  let (v, s1) := s.memRead (s.eaIx d)
  .next ((s1.acc .xor v).finish 3 19)

/-- R236 `XOR IXH`. -/
def execXorIxh (s : State) : Result :=
  .next ((s.acc .xor s.ixh).finish 2 8)

/-- R236 `XOR IXL`. -/
def execXorIxl (s : State) : Result :=
  .next ((s.acc .xor s.ixl).finish 2 8)

/-- R237 `OR (IX+d)`. -/
def execOrIdxIx (d : Byte) (s : State) : Result :=
  let (v, s1) := s.memRead (s.eaIx d)
  .next ((s1.acc .or v).finish 3 19)

/-- R237 `OR IXH`. -/
def execOrIxh (s : State) : Result :=
  .next ((s.acc .or s.ixh).finish 2 8)

/-- R237 `OR IXL`. -/
def execOrIxl (s : State) : Result :=
  .next ((s.acc .or s.ixl).finish 2 8)

/-- R238 `CP (IX+d)`. -/
def execCpIdxIx (d : Byte) (s : State) : Result :=
  let (v, s1) := s.memRead (s.eaIx d)
  .next ((s1.acc .cp v).finish 3 19)

/-- R238 `CP IXH`. -/
def execCpIxh (s : State) : Result :=
  .next ((s.acc .cp s.ixh).finish 2 8)

/-- R238 `CP IXL`. -/
def execCpIxl (s : State) : Result :=
  .next ((s.acc .cp s.ixl).finish 2 8)

/-- R241 `INC (IX+d)`. -/
def execIncIdxIx (d : Byte) (s : State) : Result :=
  .next ((s.incMem (s.eaIx d)).finish 3 23)

/-- R242 `INC IXH`. -/
def execIncIxh (s : State) : Result :=
  let (res, f) := inc8 s.ixh s.main.f
  .next (((s.setIxh res).putFlags f).finish 2 8)

/-- R242 `INC IXL`. -/
def execIncIxl (s : State) : Result :=
  let (res, f) := inc8 s.ixl s.main.f
  .next (((s.setIxl res).putFlags f).finish 2 8)

/-- R245 `DEC (IX+d)`. -/
def execDecIdxIx (d : Byte) (s : State) : Result :=
  .next ((s.decMem (s.eaIx d)).finish 3 23)

/-- R246 `DEC IXH`. -/
def execDecIxh (s : State) : Result :=
  let (res, f) := dec8 s.ixh s.main.f
  .next (((s.setIxh res).putFlags f).finish 2 8)

/-- R246 `DEC IXL`. -/
def execDecIxl (s : State) : Result :=
  let (res, f) := dec8 s.ixl s.main.f
  .next (((s.setIxl res).putFlags f).finish 2 8)

/-- R231 `ADD A,(IY+d)`. -/
def execAddAIdxIy (d : Byte) (s : State) : Result :=
  let (v, s1) := s.memRead (s.eaIy d)
  .next ((s1.acc .add v).finish 3 19)

/-- R231 `ADD A,IYH`. -/
def execAddAIyh (s : State) : Result :=
  .next ((s.acc .add s.iyh).finish 2 8)

/-- R231 `ADD A,IYL`. -/
def execAddAIyl (s : State) : Result :=
  .next ((s.acc .add s.iyl).finish 2 8)

/-- R232 `ADC A,(IY+d)`. -/
def execAdcAIdxIy (d : Byte) (s : State) : Result :=
  let (v, s1) := s.memRead (s.eaIy d)
  .next ((s1.acc .adc v).finish 3 19)

/-- R232 `ADC A,IYH`. -/
def execAdcAIyh (s : State) : Result :=
  .next ((s.acc .adc s.iyh).finish 2 8)

/-- R232 `ADC A,IYL`. -/
def execAdcAIyl (s : State) : Result :=
  .next ((s.acc .adc s.iyl).finish 2 8)

/-- R233 `SUB (IY+d)`. -/
def execSubIdxIy (d : Byte) (s : State) : Result :=
  let (v, s1) := s.memRead (s.eaIy d)
  .next ((s1.acc .sub v).finish 3 19)

/-- R233 `SUB IYH`. -/
def execSubIyh (s : State) : Result :=
  .next ((s.acc .sub s.iyh).finish 2 8)

/-- R233 `SUB IYL`. -/
def execSubIyl (s : State) : Result :=
  .next ((s.acc .sub s.iyl).finish 2 8)

/-- R234 `SBC A,(IY+d)`. -/
def execSbcAIdxIy (d : Byte) (s : State) : Result :=
  let (v, s1) := s.memRead (s.eaIy d)
  .next ((s1.acc .sbc v).finish 3 19)

/-- R234 `SBC A,IYH`. -/
def execSbcAIyh (s : State) : Result :=
  .next ((s.acc .sbc s.iyh).finish 2 8)

/-- R234 `SBC A,IYL`. -/
def execSbcAIyl (s : State) : Result :=
  .next ((s.acc .sbc s.iyl).finish 2 8)

/-- R235 `AND (IY+d)`. -/
def execAndIdxIy (d : Byte) (s : State) : Result :=
  let (v, s1) := s.memRead (s.eaIy d)
  .next ((s1.acc .and v).finish 3 19)

/-- R235 `AND IYH`. -/
def execAndIyh (s : State) : Result :=
  .next ((s.acc .and s.iyh).finish 2 8)

/-- R235 `AND IYL`. -/
def execAndIyl (s : State) : Result :=
  .next ((s.acc .and s.iyl).finish 2 8)

/-- R236 `XOR (IY+d)`. -/
def execXorIdxIy (d : Byte) (s : State) : Result :=
  let (v, s1) := s.memRead (s.eaIy d)
  .next ((s1.acc .xor v).finish 3 19)

/-- R236 `XOR IYH`. -/
def execXorIyh (s : State) : Result :=
  .next ((s.acc .xor s.iyh).finish 2 8)

/-- R236 `XOR IYL`. -/
def execXorIyl (s : State) : Result :=
  .next ((s.acc .xor s.iyl).finish 2 8)

/-- R237 `OR (IY+d)`. -/
def execOrIdxIy (d : Byte) (s : State) : Result :=
  let (v, s1) := s.memRead (s.eaIy d)
  .next ((s1.acc .or v).finish 3 19)

/-- R237 `OR IYH`. -/
def execOrIyh (s : State) : Result :=
  .next ((s.acc .or s.iyh).finish 2 8)

/-- R237 `OR IYL`. -/
def execOrIyl (s : State) : Result :=
  .next ((s.acc .or s.iyl).finish 2 8)

/-- R238 `CP (IY+d)`. -/
def execCpIdxIy (d : Byte) (s : State) : Result :=
  let (v, s1) := s.memRead (s.eaIy d)
  .next ((s1.acc .cp v).finish 3 19)

/-- R238 `CP IYH`. -/
def execCpIyh (s : State) : Result :=
  .next ((s.acc .cp s.iyh).finish 2 8)

/-- R238 `CP IYL`. -/
def execCpIyl (s : State) : Result :=
  .next ((s.acc .cp s.iyl).finish 2 8)

/-- R241 `INC (IY+d)`. -/
def execIncIdxIy (d : Byte) (s : State) : Result :=
  .next ((s.incMem (s.eaIy d)).finish 3 23)

/-- R242 `INC IYH`. -/
def execIncIyh (s : State) : Result :=
  let (res, f) := inc8 s.iyh s.main.f
  .next (((s.setIyh res).putFlags f).finish 2 8)

/-- R242 `INC IYL`. -/
def execIncIyl (s : State) : Result :=
  let (res, f) := inc8 s.iyl s.main.f
  .next (((s.setIyl res).putFlags f).finish 2 8)

/-- R245 `DEC (IY+d)`. -/
def execDecIdxIy (d : Byte) (s : State) : Result :=
  .next ((s.decMem (s.eaIy d)).finish 3 23)

/-- R246 `DEC IYH`. -/
def execDecIyh (s : State) : Result :=
  let (res, f) := dec8 s.iyh s.main.f
  .next (((s.setIyh res).putFlags f).finish 2 8)

/-- R246 `DEC IYL`. -/
def execDecIyl (s : State) : Result :=
  let (res, f) := dec8 s.iyl s.main.f
  .next (((s.setIyl res).putFlags f).finish 2 8)

end Sys2Proof.Machine
end

