-- ==== Sys2Proof/Machine/BitGroup.lean ====
section
/-! DEFINITION. The meanings of the bit test, set and reset group (47_bit.md). -/

namespace Sys2Proof.Machine

/-- A byte with bit `b` set (R284). -/
def setBit8 (b : BitVec 3) (v : Byte) : Byte := v ||| bitMask b

/-- A byte with bit `b` clear (R287). -/
def resBit8 (b : BitVec 3) (v : Byte) : Byte := v &&& ~~~(bitMask b)

/-- R281 `BIT b,r`. -/
def execBitBR (b : BitVec 3) (r : Reg8) (s : State) : Result :=
  .next ((s.putFlags (bittest b (s.getR8 r) s.main.f)).finish 2 8)

/-- R282 `BIT b,(HL)`. -/
def execBitBIndHl (b : BitVec 3) (s : State) : Result :=
  let (v, s1) := s.memRead s.main.hl
  .next ((s1.putFlags (bittest b v s.main.f)).finish 2 12)

/-- R284 `SET b,r`. -/
def execSetBR (b : BitVec 3) (r : Reg8) (s : State) : Result :=
  .next ((s.setR8 r (setBit8 b (s.getR8 r))).finish 2 8)

/-- R285 `SET b,(HL)`. -/
def execSetBIndHl (b : BitVec 3) (s : State) : Result :=
  let (v, s1) := s.memRead s.main.hl
  .next ((s1.memWrite s.main.hl (setBit8 b v)).finish 2 15)

/-- R287 `RES b,r`. -/
def execResBR (b : BitVec 3) (r : Reg8) (s : State) : Result :=
  .next ((s.setR8 r (resBit8 b (s.getR8 r))).finish 2 8)

/-- R288 `RES b,(HL)`. -/
def execResBIndHl (b : BitVec 3) (s : State) : Result :=
  let (v, s1) := s.memRead s.main.hl
  .next ((s1.memWrite s.main.hl (resBit8 b v)).finish 2 15)

/-- R283 `BIT b,(IX+d)`. -/
def execBitBIdxIx (b : BitVec 3) (d : Byte) (s : State) : Result :=
  let (v, s1) := s.memRead (s.eaIx d)
  .next ((s1.putFlags (bittest b v s.main.f)).finish 4 20)

/-- R283 `BIT b,(IX+d) [mirror]`. -/
def execBitBIdxIxMirror (b : BitVec 3) (d : Byte) (_r : Reg8) (s : State) : Result :=
  let (v, s1) := s.memRead (s.eaIx d)
  .next ((s1.putFlags (bittest b v s.main.f)).finish 4 20)

/-- R286 `SET b,(IX+d)`. -/
def execSetBIdxIx (b : BitVec 3) (d : Byte) (s : State) : Result :=
  let (v, s1) := s.memRead (s.eaIx d)
  .next ((s1.memWrite (s.eaIx d) (setBit8 b v)).finish 4 23)

/-- R286 `SET b,(IX+d),r`. -/
def execSetBIdxIxR (b : BitVec 3) (d : Byte) (r : Reg8) (s : State) : Result :=
  let (v, s1) := s.memRead (s.eaIx d)
  .next (((s1.memWrite (s.eaIx d) (setBit8 b v)).setR8 r (setBit8 b v)).finish 4 23)

/-- R289 `RES b,(IX+d)`. -/
def execResBIdxIx (b : BitVec 3) (d : Byte) (s : State) : Result :=
  let (v, s1) := s.memRead (s.eaIx d)
  .next ((s1.memWrite (s.eaIx d) (resBit8 b v)).finish 4 23)

/-- R289 `RES b,(IX+d),r`. -/
def execResBIdxIxR (b : BitVec 3) (d : Byte) (r : Reg8) (s : State) : Result :=
  let (v, s1) := s.memRead (s.eaIx d)
  .next (((s1.memWrite (s.eaIx d) (resBit8 b v)).setR8 r (resBit8 b v)).finish 4 23)

/-- R283 `BIT b,(IY+d)`. -/
def execBitBIdxIy (b : BitVec 3) (d : Byte) (s : State) : Result :=
  let (v, s1) := s.memRead (s.eaIy d)
  .next ((s1.putFlags (bittest b v s.main.f)).finish 4 20)

/-- R283 `BIT b,(IY+d) [mirror]`. -/
def execBitBIdxIyMirror (b : BitVec 3) (d : Byte) (_r : Reg8) (s : State) : Result :=
  let (v, s1) := s.memRead (s.eaIy d)
  .next ((s1.putFlags (bittest b v s.main.f)).finish 4 20)

/-- R286 `SET b,(IY+d)`. -/
def execSetBIdxIy (b : BitVec 3) (d : Byte) (s : State) : Result :=
  let (v, s1) := s.memRead (s.eaIy d)
  .next ((s1.memWrite (s.eaIy d) (setBit8 b v)).finish 4 23)

/-- R286 `SET b,(IY+d),r`. -/
def execSetBIdxIyR (b : BitVec 3) (d : Byte) (r : Reg8) (s : State) : Result :=
  let (v, s1) := s.memRead (s.eaIy d)
  .next (((s1.memWrite (s.eaIy d) (setBit8 b v)).setR8 r (setBit8 b v)).finish 4 23)

/-- R289 `RES b,(IY+d)`. -/
def execResBIdxIy (b : BitVec 3) (d : Byte) (s : State) : Result :=
  let (v, s1) := s.memRead (s.eaIy d)
  .next ((s1.memWrite (s.eaIy d) (resBit8 b v)).finish 4 23)

/-- R289 `RES b,(IY+d),r`. -/
def execResBIdxIyR (b : BitVec 3) (d : Byte) (r : Reg8) (s : State) : Result :=
  let (v, s1) := s.memRead (s.eaIy d)
  .next (((s1.memWrite (s.eaIy d) (resBit8 b v)).setR8 r (resBit8 b v)).finish 4 23)

end Sys2Proof.Machine
end

