-- ==== Sys2Proof/Machine/CallReturn.lean ====
section
/-! DEFINITION. The meanings of the call and return group (48_jump_call_return.md). -/

namespace Sys2Proof.Machine

/-- R301 `CALL nn`. -/
def execCallNn (nn : Word) (s : State) : Result :=
  .next (s.call 3 nn 17)

/-- R302 `CALL cc,nn`. -/
def execCallCcNn (cc : Cond) (nn : Word) (s : State) : Result :=
  .next (if s.cond cc then s.call 3 nn 17 else s.finish 3 10)

/-- R303 `RET`. -/
def execRet (s : State) : Result :=
  .next (s.ret 10)

/-- R304 `RET cc`. -/
def execRetCc (cc : Cond) (s : State) : Result :=
  .next (if s.cond cc then s.ret 11 else s.finish 1 5)

/-- R305 `RETI`. -/
def execReti (s : State) : Result :=
  .next (s.reti 14)

/-- R306 `RETN`. -/
def execRetn (s : State) : Result :=
  .next (s.retn 14)

/-- R307 `RST p`. -/
def execRstP (t : BitVec 3) (s : State) : Result :=
  .next (s.call 1 (BitVec.ofNat 16 (t.toNat * 8)) 11)

end Sys2Proof.Machine
end

