-- ==== Sys2Proof/Machine/ExchangeBlock.lean ====
section
/-! DEFINITION. The meanings of the exchange, block transfer and block search group (42_exchange_block.md). -/

namespace Sys2Proof.Machine

namespace State

/-- The four accesses of `EX (SP),X`: read SP, read SP+1, write SP+1, write SP (R67, R194). It gives the
word that was on top of the stack. -/
def exchangeTop (s : State) (v : Word) : Word × State :=
  let (top, s1) := s.memRead16 s.sp
  (top, (s1.memWrite (s.sp + 1) (hi v)).memWrite s.sp (lo v))

/-- The data movement and flags of LDI (`step` 1, R196) and LDD (`step` -1, R198). -/
def blockTransfer (s : State) (step : Word) : State :=
  let (v, s1) := s.memRead s.main.hl
  let s2 := s1.memWrite s.main.de v
  (((s2.setHl (s.main.hl + step)).setDe (s.main.de + step)).setBc (s.main.bc - 1)).putFlags
    (transferFlags (s.main.bc - 1) s.main.f)

/-- The compare, pointer and count update and flags of CPI (`step` 1, R200) and CPD (`step` -1, R202). -/
def blockSearch (s : State) (step : Word) : State :=
  let (v, s1) := s.memRead s.main.hl
  ((s1.setHl (s.main.hl + step)).setBc (s.main.bc - 1)).putFlags
    (searchFlags s.main.a v (s.main.bc - 1) s.main.f)

/-- The end of an iteration of a repeating block instruction: PC unchanged while it repeats, else past
the instruction; 21 or 16 time units (R197, R201, R394). -/
def repeatIf (s : State) (again : Bool) : State := if again then s.hold 21 else s.finish 2 16

end State

/-- R191 `EX DE,HL`. -/
def execExDeHl (s : State) : Result :=
  .next (((s.setDe s.main.hl).setHl s.main.de).finish 1 4)

/-- R192 `EX AF,AF'`. -/
def execExAfAf (s : State) : Result :=
  .next (State.finish { s with
    main := { s.main with a := s.alt.a, f := s.alt.f }
    alt := { s.alt with a := s.main.a, f := s.main.f } } 1 4)

/-- R193 `EXX`. -/
def execExx (s : State) : Result :=
  .next (State.finish { s with
    main := { s.alt with a := s.main.a, f := s.main.f }
    alt := { s.main with a := s.alt.a, f := s.alt.f } } 1 4)

/-- R194 `EX (SP),HL`. -/
def execExIndSpHl (s : State) : Result :=
  let (v, s1) := s.exchangeTop s.main.hl
  .next ((s1.setHl v).finish 1 19)

/-- R196 `LDI`. -/
def execLdi (s : State) : Result :=
  .next ((s.blockTransfer 1).finish 2 16)

/-- R197 `LDIR`. -/
def execLdir (s : State) : Result :=
  .next ((s.blockTransfer 1).repeatIf ((s.main.bc - 1) != 0))

/-- R198 `LDD`. -/
def execLdd (s : State) : Result :=
  .next ((s.blockTransfer (-1)).finish 2 16)

/-- R199 `LDDR`. -/
def execLddr (s : State) : Result :=
  .next ((s.blockTransfer (-1)).repeatIf ((s.main.bc - 1) != 0))

/-- R200 `CPI`. -/
def execCpi (s : State) : Result :=
  .next ((s.blockSearch 1).finish 2 16)

/-- R201 `CPIR`. -/
def execCpir (s : State) : Result :=
  .next ((s.blockSearch 1).repeatIf ((s.main.bc - 1) != 0 && s.main.a != s.peek s.main.hl))

/-- R202 `CPD`. -/
def execCpd (s : State) : Result :=
  .next ((s.blockSearch (-1)).finish 2 16)

/-- R203 `CPDR`. -/
def execCpdr (s : State) : Result :=
  .next ((s.blockSearch (-1)).repeatIf ((s.main.bc - 1) != 0 && s.main.a != s.peek s.main.hl))

/-- R195 `EX (SP),IX`. -/
def execExIndSpIx (s : State) : Result :=
  let (v, s1) := s.exchangeTop s.ix
  .next ((s1.setIx v).finish 2 23)

/-- R195 `EX (SP),IY`. -/
def execExIndSpIy (s : State) : Result :=
  let (v, s1) := s.exchangeTop s.iy
  .next ((s1.setIy v).finish 2 23)

end Sys2Proof.Machine
end

