-- ==== Sys2Proof/Machine/GeneralMisc.lean ====
section
/-! DEFINITION. The meanings of the general-purpose arithmetic and CPU control group (43_general_misc.md). -/

namespace Sys2Proof.Machine

/-- R211 `DAA`. -/
def execDaa (s : State) : Result :=
  let (res, f) := daa s.main.a s.main.f
  .next (((s.setA res).putFlags f).finish 1 4)

/-- R212 `CPL`. -/
def execCpl (s : State) : Result :=
  .next (((s.setA (s.main.a ^^^ 0xFF#8)).putFlags { s.main.f with h := true, n := true }).finish 1 4)

/-- R213 `NEG`. -/
def execNeg (s : State) : Result :=
  let (res, f) := sub8 0 s.main.a false s.main.f
  .next (((s.setA res).putFlags f).finish 2 8)

/-- R214 `CCF`. -/
def execCcf (s : State) : Result :=
  .next ((s.putFlags { s.main.f with h := s.main.f.c, n := false, c := !s.main.f.c }).finish 1 4)

/-- R215 `SCF`. -/
def execScf (s : State) : Result :=
  .next ((s.putFlags { s.main.f with h := false, n := false, c := true }).finish 1 4)

/-- R216 `NOP`. -/
def execNop (s : State) : Result :=
  .next (s.finish 1 4)

/-- R217 `HALT`. -/
def execHalt (s : State) : Result :=
  if s.haltSt = .satisfied then .next (State.finish { s with haltSt := .none } 1 4)
  else .next (State.hold { s with haltSt := .waiting } 4)

/-- R218 `DI`. -/
def execDi (s : State) : Result :=
  .next (State.finish { s with iff1 := false, iff2 := false, eiSt := .none } 1 4)

/-- R219 `EI`. -/
def execEi (s : State) : Result :=
  .next (State.finish { s with eiSt := .waiting } 1 4)

/-- R220 `IM 0`. -/
def execIm0 (s : State) : Result :=
  .next (State.finish { s with im := .im0 } 2 8)

/-- R221 `IM 1`. -/
def execIm1 (s : State) : Result :=
  .next (State.finish { s with im := .im1 } 2 8)

/-- R222 `IM 2`. -/
def execIm2 (s : State) : Result :=
  .next (State.finish { s with im := .im2 } 2 8)

end Sys2Proof.Machine
end

