-- ==== Sys2Proof/Machine/InputOutput.lean ====
section
/-! DEFINITION. The meanings of the input and output group (49_io.md). -/

namespace Sys2Proof.Machine

namespace State

/-- The transfer and updates of INI (steps 1, R323) and IND (steps -1, R325): `k` adds the register C,
stepped the same way, to the byte read. It gives the flags of the rule, not yet written. -/
def blockIn (s : State) (step : Word) (cStep : Byte) : Flags × State :=
  let (v, s1) := s.portRead s.main.bc
  let s2 := s1.memWrite s.main.hl v
  let s3 := (s2.setB (s.main.b - 1)).setHl (s.main.hl + step)
  (blockIoFlags (v.toNat + (s.main.c + cStep).toNat) v (s.main.b - 1) s.main.f, s3)

/-- The transfer and updates of OUTI (`step` 1, R329) and OUTD (`step` -1, R331): the port number has
the new B, and `k` adds L of the new HL to the byte written. -/
def blockOut (s : State) (step : Word) : Flags × State :=
  let (v, s1) := s.memRead s.main.hl
  let s2 := s1.setB (s.main.b - 1)
  let s3 := (s2.portWrite s2.main.bc v).setHl (s.main.hl + step)
  (blockIoFlags (v.toNat + s3.main.l.toNat) v (s.main.b - 1) s.main.f, s3)

/-- The end of an iteration of INIR, INDR, OTIR, OTDR: while B is not 0, H and PV are free, PC stays,
21 time units; else the rule's flags, PC advances, 16 time units (R324, R330). -/
def blockIoRepeat (s : State) (f : Flags) : State :=
  if s.main.b != 0 then (s.putFlagsAnyHPv f).hold 21 else (s.putFlags f).finish 2 16

end State

/-- R321 `IN A,(n)`. -/
def execInAPortN (n : Byte) (s : State) : Result :=
  let (v, s1) := s.portRead (pair s.main.a n)
  .next ((s1.setA v).finish 2 11)

/-- R322 `IN r,(C)`. -/
def execInRPortC (r : Reg8) (s : State) : Result :=
  let (v, s1) := s.portRead s.main.bc
  .next (((s1.setR8 r v).putFlags (moveFlags v (parity8 v) s.main.f)).finish 2 12)

/-- R323 `INI`. -/
def execIni (s : State) : Result :=
  let (f, s1) := s.blockIn 1 1
  .next ((s1.putFlags f).finish 2 16)

/-- R324 `INIR`. -/
def execInir (s : State) : Result :=
  let (f, s1) := s.blockIn 1 1
  .next (s1.blockIoRepeat f)

/-- R325 `IND`. -/
def execInd (s : State) : Result :=
  let (f, s1) := s.blockIn (-1) (-1)
  .next ((s1.putFlags f).finish 2 16)

/-- R326 `INDR`. -/
def execIndr (s : State) : Result :=
  let (f, s1) := s.blockIn (-1) (-1)
  .next (s1.blockIoRepeat f)

/-- R327 `OUT (n),A`. -/
def execOutPortNA (n : Byte) (s : State) : Result :=
  .next ((s.portWrite (pair s.main.a n) s.main.a).finish 2 11)

/-- R328 `OUT (C),r`. -/
def execOutPortCR (r : Reg8) (s : State) : Result :=
  .next ((s.portWrite s.main.bc (s.getR8 r)).finish 2 12)

/-- R329 `OUTI`. -/
def execOuti (s : State) : Result :=
  let (f, s1) := s.blockOut 1
  .next ((s1.putFlags f).finish 2 16)

/-- R330 `OTIR`. -/
def execOtir (s : State) : Result :=
  let (f, s1) := s.blockOut 1
  .next (s1.blockIoRepeat f)

/-- R331 `OUTD`. -/
def execOutd (s : State) : Result :=
  let (f, s1) := s.blockOut (-1)
  .next ((s1.putFlags f).finish 2 16)

/-- R332 `OTDR`. -/
def execOtdr (s : State) : Result :=
  let (f, s1) := s.blockOut (-1)
  .next (s1.blockIoRepeat f)

end Sys2Proof.Machine
end

