-- ==== Sys2Proof/Machine/Jump.lean ====
section
/-! DEFINITION. The meanings of the jump group (48_jump_call_return.md). -/

namespace Sys2Proof.Machine

/-- R291 `JP nn`. -/
def execJpNn (nn : Word) (s : State) : Result :=
  .next (s.jump nn 10)

/-- R292 `JP cc,nn`. -/
def execJpCcNn (cc : Cond) (nn : Word) (s : State) : Result :=
  .next (if s.cond cc then s.jump nn 10 else s.finish 3 10)

/-- R293 `JR e`. -/
def execJrE (e : Byte) (s : State) : Result :=
  .next (s.jump (s.relTarget e) 12)

/-- R294 `JR C,e`. -/
def execJrCE (e : Byte) (s : State) : Result :=
  .next (s.jumpRelIf (s.cond .c) e 12 7)

/-- R295 `JR NC,e`. -/
def execJrNcE (e : Byte) (s : State) : Result :=
  .next (s.jumpRelIf (s.cond .nc) e 12 7)

/-- R296 `JR Z,e`. -/
def execJrZE (e : Byte) (s : State) : Result :=
  .next (s.jumpRelIf (s.cond .z) e 12 7)

/-- R297 `JR NZ,e`. -/
def execJrNzE (e : Byte) (s : State) : Result :=
  .next (s.jumpRelIf (s.cond .nz) e 12 7)

/-- R298 `JP (HL)`. -/
def execJpHl (s : State) : Result :=
  .next (s.jump s.main.hl 4)

/-- R300 `DJNZ e`. -/
def execDjnzE (e : Byte) (s : State) : Result :=
  .next ((s.setB (s.main.b - 1)).jumpRelIf ((s.main.b - 1) != 0) e 13 8)

/-- R299 `JP (IX)`. -/
def execJpIx (s : State) : Result :=
  .next (s.jump s.ix 8)

/-- R299 `JP (IY)`. -/
def execJpIy (s : State) : Result :=
  .next (s.jump s.iy 8)

end Sys2Proof.Machine
end

