-- ==== Sys2Proof/Machine/Load16.lean ====
section
/-! DEFINITION. The meanings of the 16-bit load group (41_load16.md). -/

namespace Sys2Proof.Machine

/-- R171 `LD dd,nn`. -/
def execLdDdNn (p : PairDd) (nn : Word) (s : State) : Result :=
  .next ((s.setDd p nn).finish 3 10)

/-- R173 `LD HL,(nn)`. -/
def execLdHlIndNn (nn : Word) (s : State) : Result :=
  let (v, s1) := s.memRead16 nn
  .next ((s1.setHl v).finish 3 16)

/-- R174 `LD dd,(nn)`. -/
def execLdDdIndNn (p : PairDd) (nn : Word) (s : State) : Result :=
  let (v, s1) := s.memRead16 nn
  .next ((s1.setDd p v).finish 4 20)

/-- R176 `LD (nn),HL`. -/
def execLdIndNnHl (nn : Word) (s : State) : Result :=
  .next ((s.memWrite16 nn s.main.hl).finish 3 16)

/-- R177 `LD (nn),dd`. -/
def execLdIndNnDd (nn : Word) (p : PairDd) (s : State) : Result :=
  .next ((s.memWrite16 nn (s.getDd p)).finish 4 20)

/-- R179 `LD SP,HL`. -/
def execLdSpHl (s : State) : Result :=
  .next ((s.setSp s.main.hl).finish 1 6)

/-- R181 `PUSH qq`. -/
def execPushQq (p : PairQq) (s : State) : Result :=
  .next ((s.push16 (s.getQq p)).finish 1 11)

/-- R183 `POP qq`. -/
def execPopQq (p : PairQq) (s : State) : Result :=
  let (v, s1) := s.pop16
  .next ((s1.setQq p v).finish 1 10)

/-- R172 `LD IX,nn`. -/
def execLdIxNn (nn : Word) (s : State) : Result :=
  .next ((s.setIx nn).finish 4 14)

/-- R175 `LD IX,(nn)`. -/
def execLdIxIndNn (nn : Word) (s : State) : Result :=
  let (v, s1) := s.memRead16 nn
  .next ((s1.setIx v).finish 4 20)

/-- R178 `LD (nn),IX`. -/
def execLdIndNnIx (nn : Word) (s : State) : Result :=
  .next ((s.memWrite16 nn s.ix).finish 4 20)

/-- R180 `LD SP,IX`. -/
def execLdSpIx (s : State) : Result :=
  .next ((s.setSp s.ix).finish 2 10)

/-- R182 `PUSH IX`. -/
def execPushIx (s : State) : Result :=
  .next ((s.push16 s.ix).finish 2 15)

/-- R184 `POP IX`. -/
def execPopIx (s : State) : Result :=
  let (v, s1) := s.pop16
  .next ((s1.setIx v).finish 2 14)

/-- R172 `LD IY,nn`. -/
def execLdIyNn (nn : Word) (s : State) : Result :=
  .next ((s.setIy nn).finish 4 14)

/-- R175 `LD IY,(nn)`. -/
def execLdIyIndNn (nn : Word) (s : State) : Result :=
  let (v, s1) := s.memRead16 nn
  .next ((s1.setIy v).finish 4 20)

/-- R178 `LD (nn),IY`. -/
def execLdIndNnIy (nn : Word) (s : State) : Result :=
  .next ((s.memWrite16 nn s.iy).finish 4 20)

/-- R180 `LD SP,IY`. -/
def execLdSpIy (s : State) : Result :=
  .next ((s.setSp s.iy).finish 2 10)

/-- R182 `PUSH IY`. -/
def execPushIy (s : State) : Result :=
  .next ((s.push16 s.iy).finish 2 15)

/-- R184 `POP IY`. -/
def execPopIy (s : State) : Result :=
  let (v, s1) := s.pop16
  .next ((s1.setIy v).finish 2 14)

end Sys2Proof.Machine
end

