-- ==== Sys2Proof/Machine/Load8.lean ====
section
/-! DEFINITION. The meanings of the 8-bit load group (40_load8.md). -/

namespace Sys2Proof.Machine

/-- R141 `LD r,r'`. -/
def execLdRR (r : Reg8) (q : Reg8) (s : State) : Result :=
  .next ((s.setR8 r (s.getR8 q)).finish 1 4)

/-- R142 `LD r,n`. -/
def execLdRN (r : Reg8) (n : Byte) (s : State) : Result :=
  .next ((s.setR8 r n).finish 2 7)

/-- R143 `LD r,(HL)`. -/
def execLdRIndHl (r : Reg8) (s : State) : Result :=
  let (v, s1) := s.memRead s.main.hl
  .next ((s1.setR8 r v).finish 1 7)

/-- R145 `LD (HL),r`. -/
def execLdIndHlR (r : Reg8) (s : State) : Result :=
  .next ((s.memWrite s.main.hl (s.getR8 r)).finish 1 7)

/-- R147 `LD (HL),n`. -/
def execLdIndHlN (n : Byte) (s : State) : Result :=
  .next ((s.memWrite s.main.hl n).finish 2 10)

/-- R149 `LD A,(BC)`. -/
def execLdAIndBc (s : State) : Result :=
  let (v, s1) := s.memRead s.main.bc
  .next ((s1.setA v).finish 1 7)

/-- R150 `LD A,(DE)`. -/
def execLdAIndDe (s : State) : Result :=
  let (v, s1) := s.memRead s.main.de
  .next ((s1.setA v).finish 1 7)

/-- R151 `LD A,(nn)`. -/
def execLdAIndNn (nn : Word) (s : State) : Result :=
  let (v, s1) := s.memRead nn
  .next ((s1.setA v).finish 3 13)

/-- R152 `LD (BC),A`. -/
def execLdIndBcA (s : State) : Result :=
  .next ((s.memWrite s.main.bc s.main.a).finish 1 7)

/-- R153 `LD (DE),A`. -/
def execLdIndDeA (s : State) : Result :=
  .next ((s.memWrite s.main.de s.main.a).finish 1 7)

/-- R154 `LD (nn),A`. -/
def execLdIndNnA (nn : Word) (s : State) : Result :=
  .next ((s.memWrite nn s.main.a).finish 3 13)

/-- R155 `LD A,I`. -/
def execLdAI (s : State) : Result :=
  .next (((s.setA s.i).putFlags (moveFlags s.i s.iff2 s.main.f)).finish 2 9)

/-- R156 `LD A,R`. -/
def execLdAR (s : State) : Result :=
  .next (((s.setA s.r).putFlags (moveFlags s.r s.iff2 s.main.f)).finish 2 9)

/-- R157 `LD I,A`. -/
def execLdIA (s : State) : Result :=
  .next (State.finish { s with i := s.main.a } 2 9)

/-- R158 `LD R,A`. -/
def execLdRA (s : State) : Result :=
  .next (State.finish { s with r := s.main.a } 2 9)

/-- R144 `LD r,(IX+d)`. -/
def execLdRIdxIx (r : Reg8) (d : Byte) (s : State) : Result :=
  let (v, s1) := s.memRead (s.eaIx d)
  .next ((s1.setR8 r v).finish 3 19)

/-- R146 `LD (IX+d),r`. -/
def execLdIdxIxR (d : Byte) (r : Reg8) (s : State) : Result :=
  .next ((s.memWrite (s.eaIx d) (s.getR8 r)).finish 3 19)

/-- R148 `LD (IX+d),n`. -/
def execLdIdxIxN (d : Byte) (n : Byte) (s : State) : Result :=
  .next ((s.memWrite (s.eaIx d) n).finish 4 19)

/-- R159 `LD p,p' (IX)`. -/
def execLdPPIx (r : RegP) (q : RegP) (s : State) : Result :=
  .next ((s.setP8 r (s.getP8 q)).finish 2 8)

/-- R160 `LD IXH,n`. -/
def execLdIxhN (n : Byte) (s : State) : Result :=
  .next ((s.setIxh n).finish 3 11)

/-- R160 `LD IXL,n`. -/
def execLdIxlN (n : Byte) (s : State) : Result :=
  .next ((s.setIxl n).finish 3 11)

/-- R144 `LD r,(IY+d)`. -/
def execLdRIdxIy (r : Reg8) (d : Byte) (s : State) : Result :=
  let (v, s1) := s.memRead (s.eaIy d)
  .next ((s1.setR8 r v).finish 3 19)

/-- R146 `LD (IY+d),r`. -/
def execLdIdxIyR (d : Byte) (r : Reg8) (s : State) : Result :=
  .next ((s.memWrite (s.eaIy d) (s.getR8 r)).finish 3 19)

/-- R148 `LD (IY+d),n`. -/
def execLdIdxIyN (d : Byte) (n : Byte) (s : State) : Result :=
  .next ((s.memWrite (s.eaIy d) n).finish 4 19)

/-- R159 `LD p,p' (IY)`. -/
def execLdPPIy (r : RegQ) (q : RegQ) (s : State) : Result :=
  .next ((s.setQ8 r (s.getQ8 q)).finish 2 8)

/-- R160 `LD IYH,n`. -/
def execLdIyhN (n : Byte) (s : State) : Result :=
  .next ((s.setIyh n).finish 3 11)

/-- R160 `LD IYL,n`. -/
def execLdIylN (n : Byte) (s : State) : Result :=
  .next ((s.setIyl n).finish 3 11)

end Sys2Proof.Machine
end

