-- ==== Sys2Proof/Machine/RotateShift.lean ====
section
/-! DEFINITION. The meanings of the rotate and shift group (46_rotate_shift.md). -/

namespace Sys2Proof.Machine

namespace State

/-- A rotate or shift of a memory byte: read, write back, flags; it gives the result (R265). -/
def rotMem (s : State) (op : RotOp) (a : Word) : Byte × State :=
  let (v, s1) := s.memRead a
  let (res, f) := rot8 op v s.main.f
  (res, (s1.memWrite a res).putFlags f)

end State

/-- R261 `RLCA`. -/
def execRlca (s : State) : Result :=
  let (res, f) := rotA .rlc s.main.a s.main.f
  .next (((s.setA res).putFlags f).finish 1 4)

/-- R262 `RLA`. -/
def execRla (s : State) : Result :=
  let (res, f) := rotA .rl s.main.a s.main.f
  .next (((s.setA res).putFlags f).finish 1 4)

/-- R263 `RRCA`. -/
def execRrca (s : State) : Result :=
  let (res, f) := rotA .rrc s.main.a s.main.f
  .next (((s.setA res).putFlags f).finish 1 4)

/-- R264 `RRA`. -/
def execRra (s : State) : Result :=
  let (res, f) := rotA .rr s.main.a s.main.f
  .next (((s.setA res).putFlags f).finish 1 4)

/-- R266 `RLC r`. -/
def execRlcR (r : Reg8) (s : State) : Result :=
  let (res, f) := rot8 .rlc (s.getR8 r) s.main.f
  .next (((s.setR8 r res).putFlags f).finish 2 8)

/-- R266 `RLC (HL)`. -/
def execRlcIndHl (s : State) : Result :=
  let (_, s1) := s.rotMem .rlc s.main.hl
  .next (s1.finish 2 15)

/-- R267 `RRC r`. -/
def execRrcR (r : Reg8) (s : State) : Result :=
  let (res, f) := rot8 .rrc (s.getR8 r) s.main.f
  .next (((s.setR8 r res).putFlags f).finish 2 8)

/-- R267 `RRC (HL)`. -/
def execRrcIndHl (s : State) : Result :=
  let (_, s1) := s.rotMem .rrc s.main.hl
  .next (s1.finish 2 15)

/-- R268 `RL r`. -/
def execRlR (r : Reg8) (s : State) : Result :=
  let (res, f) := rot8 .rl (s.getR8 r) s.main.f
  .next (((s.setR8 r res).putFlags f).finish 2 8)

/-- R268 `RL (HL)`. -/
def execRlIndHl (s : State) : Result :=
  let (_, s1) := s.rotMem .rl s.main.hl
  .next (s1.finish 2 15)

/-- R269 `RR r`. -/
def execRrR (r : Reg8) (s : State) : Result :=
  let (res, f) := rot8 .rr (s.getR8 r) s.main.f
  .next (((s.setR8 r res).putFlags f).finish 2 8)

/-- R269 `RR (HL)`. -/
def execRrIndHl (s : State) : Result :=
  let (_, s1) := s.rotMem .rr s.main.hl
  .next (s1.finish 2 15)

/-- R270 `SLA r`. -/
def execSlaR (r : Reg8) (s : State) : Result :=
  let (res, f) := rot8 .sla (s.getR8 r) s.main.f
  .next (((s.setR8 r res).putFlags f).finish 2 8)

/-- R270 `SLA (HL)`. -/
def execSlaIndHl (s : State) : Result :=
  let (_, s1) := s.rotMem .sla s.main.hl
  .next (s1.finish 2 15)

/-- R271 `SRA r`. -/
def execSraR (r : Reg8) (s : State) : Result :=
  let (res, f) := rot8 .sra (s.getR8 r) s.main.f
  .next (((s.setR8 r res).putFlags f).finish 2 8)

/-- R271 `SRA (HL)`. -/
def execSraIndHl (s : State) : Result :=
  let (_, s1) := s.rotMem .sra s.main.hl
  .next (s1.finish 2 15)

/-- R272 `SLL r`. -/
def execSllR (r : Reg8) (s : State) : Result :=
  let (res, f) := rot8 .sll (s.getR8 r) s.main.f
  .next (((s.setR8 r res).putFlags f).finish 2 8)

/-- R272 `SLL (HL)`. -/
def execSllIndHl (s : State) : Result :=
  let (_, s1) := s.rotMem .sll s.main.hl
  .next (s1.finish 2 15)

/-- R273 `SRL r`. -/
def execSrlR (r : Reg8) (s : State) : Result :=
  let (res, f) := rot8 .srl (s.getR8 r) s.main.f
  .next (((s.setR8 r res).putFlags f).finish 2 8)

/-- R273 `SRL (HL)`. -/
def execSrlIndHl (s : State) : Result :=
  let (_, s1) := s.rotMem .srl s.main.hl
  .next (s1.finish 2 15)

/-- R274 `RLD`. -/
def execRld (s : State) : Result :=
  let (v, s1) := s.memRead s.main.hl
  let s2 := s1.memWrite s.main.hl ((v <<< 4) ||| (s.main.a &&& 0x0F#8))
  let res := (s.main.a &&& 0xF0#8) ||| (v >>> 4)
  .next (((s2.setA res).putFlags (moveFlags res (parity8 res) s.main.f)).finish 2 18)

/-- R275 `RRD`. -/
def execRrd (s : State) : Result :=
  let (v, s1) := s.memRead s.main.hl
  let s2 := s1.memWrite s.main.hl (((s.main.a &&& 0x0F#8) <<< 4) ||| (v >>> 4))
  let res := (s.main.a &&& 0xF0#8) ||| (v &&& 0x0F#8)
  .next (((s2.setA res).putFlags (moveFlags res (parity8 res) s.main.f)).finish 2 18)

/-- R266 `RLC (IX+d)`. -/
def execRlcIdxIx (d : Byte) (s : State) : Result :=
  let (_, s1) := s.rotMem .rlc (s.eaIx d)
  .next (s1.finish 4 23)

/-- R266 `RLC (IX+d),r`. -/
def execRlcIdxIxR (d : Byte) (r : Reg8) (s : State) : Result :=
  let (res, s1) := s.rotMem .rlc (s.eaIx d)
  .next ((s1.setR8 r res).finish 4 23)

/-- R267 `RRC (IX+d)`. -/
def execRrcIdxIx (d : Byte) (s : State) : Result :=
  let (_, s1) := s.rotMem .rrc (s.eaIx d)
  .next (s1.finish 4 23)

/-- R267 `RRC (IX+d),r`. -/
def execRrcIdxIxR (d : Byte) (r : Reg8) (s : State) : Result :=
  let (res, s1) := s.rotMem .rrc (s.eaIx d)
  .next ((s1.setR8 r res).finish 4 23)

/-- R268 `RL (IX+d)`. -/
def execRlIdxIx (d : Byte) (s : State) : Result :=
  let (_, s1) := s.rotMem .rl (s.eaIx d)
  .next (s1.finish 4 23)

/-- R268 `RL (IX+d),r`. -/
def execRlIdxIxR (d : Byte) (r : Reg8) (s : State) : Result :=
  let (res, s1) := s.rotMem .rl (s.eaIx d)
  .next ((s1.setR8 r res).finish 4 23)

/-- R269 `RR (IX+d)`. -/
def execRrIdxIx (d : Byte) (s : State) : Result :=
  let (_, s1) := s.rotMem .rr (s.eaIx d)
  .next (s1.finish 4 23)

/-- R269 `RR (IX+d),r`. -/
def execRrIdxIxR (d : Byte) (r : Reg8) (s : State) : Result :=
  let (res, s1) := s.rotMem .rr (s.eaIx d)
  .next ((s1.setR8 r res).finish 4 23)

/-- R270 `SLA (IX+d)`. -/
def execSlaIdxIx (d : Byte) (s : State) : Result :=
  let (_, s1) := s.rotMem .sla (s.eaIx d)
  .next (s1.finish 4 23)

/-- R270 `SLA (IX+d),r`. -/
def execSlaIdxIxR (d : Byte) (r : Reg8) (s : State) : Result :=
  let (res, s1) := s.rotMem .sla (s.eaIx d)
  .next ((s1.setR8 r res).finish 4 23)

/-- R271 `SRA (IX+d)`. -/
def execSraIdxIx (d : Byte) (s : State) : Result :=
  let (_, s1) := s.rotMem .sra (s.eaIx d)
  .next (s1.finish 4 23)

/-- R271 `SRA (IX+d),r`. -/
def execSraIdxIxR (d : Byte) (r : Reg8) (s : State) : Result :=
  let (res, s1) := s.rotMem .sra (s.eaIx d)
  .next ((s1.setR8 r res).finish 4 23)

/-- R272 `SLL (IX+d)`. -/
def execSllIdxIx (d : Byte) (s : State) : Result :=
  let (_, s1) := s.rotMem .sll (s.eaIx d)
  .next (s1.finish 4 23)

/-- R272 `SLL (IX+d),r`. -/
def execSllIdxIxR (d : Byte) (r : Reg8) (s : State) : Result :=
  let (res, s1) := s.rotMem .sll (s.eaIx d)
  .next ((s1.setR8 r res).finish 4 23)

/-- R273 `SRL (IX+d)`. -/
def execSrlIdxIx (d : Byte) (s : State) : Result :=
  let (_, s1) := s.rotMem .srl (s.eaIx d)
  .next (s1.finish 4 23)

/-- R273 `SRL (IX+d),r`. -/
def execSrlIdxIxR (d : Byte) (r : Reg8) (s : State) : Result :=
  let (res, s1) := s.rotMem .srl (s.eaIx d)
  .next ((s1.setR8 r res).finish 4 23)

/-- R266 `RLC (IY+d)`. -/
def execRlcIdxIy (d : Byte) (s : State) : Result :=
  let (_, s1) := s.rotMem .rlc (s.eaIy d)
  .next (s1.finish 4 23)

/-- R266 `RLC (IY+d),r`. -/
def execRlcIdxIyR (d : Byte) (r : Reg8) (s : State) : Result :=
  let (res, s1) := s.rotMem .rlc (s.eaIy d)
  .next ((s1.setR8 r res).finish 4 23)

/-- R267 `RRC (IY+d)`. -/
def execRrcIdxIy (d : Byte) (s : State) : Result :=
  let (_, s1) := s.rotMem .rrc (s.eaIy d)
  .next (s1.finish 4 23)

/-- R267 `RRC (IY+d),r`. -/
def execRrcIdxIyR (d : Byte) (r : Reg8) (s : State) : Result :=
  let (res, s1) := s.rotMem .rrc (s.eaIy d)
  .next ((s1.setR8 r res).finish 4 23)

/-- R268 `RL (IY+d)`. -/
def execRlIdxIy (d : Byte) (s : State) : Result :=
  let (_, s1) := s.rotMem .rl (s.eaIy d)
  .next (s1.finish 4 23)

/-- R268 `RL (IY+d),r`. -/
def execRlIdxIyR (d : Byte) (r : Reg8) (s : State) : Result :=
  let (res, s1) := s.rotMem .rl (s.eaIy d)
  .next ((s1.setR8 r res).finish 4 23)

/-- R269 `RR (IY+d)`. -/
def execRrIdxIy (d : Byte) (s : State) : Result :=
  let (_, s1) := s.rotMem .rr (s.eaIy d)
  .next (s1.finish 4 23)

/-- R269 `RR (IY+d),r`. -/
def execRrIdxIyR (d : Byte) (r : Reg8) (s : State) : Result :=
  let (res, s1) := s.rotMem .rr (s.eaIy d)
  .next ((s1.setR8 r res).finish 4 23)

/-- R270 `SLA (IY+d)`. -/
def execSlaIdxIy (d : Byte) (s : State) : Result :=
  let (_, s1) := s.rotMem .sla (s.eaIy d)
  .next (s1.finish 4 23)

/-- R270 `SLA (IY+d),r`. -/
def execSlaIdxIyR (d : Byte) (r : Reg8) (s : State) : Result :=
  let (res, s1) := s.rotMem .sla (s.eaIy d)
  .next ((s1.setR8 r res).finish 4 23)

/-- R271 `SRA (IY+d)`. -/
def execSraIdxIy (d : Byte) (s : State) : Result :=
  let (_, s1) := s.rotMem .sra (s.eaIy d)
  .next (s1.finish 4 23)

/-- R271 `SRA (IY+d),r`. -/
def execSraIdxIyR (d : Byte) (r : Reg8) (s : State) : Result :=
  let (res, s1) := s.rotMem .sra (s.eaIy d)
  .next ((s1.setR8 r res).finish 4 23)

/-- R272 `SLL (IY+d)`. -/
def execSllIdxIy (d : Byte) (s : State) : Result :=
  let (_, s1) := s.rotMem .sll (s.eaIy d)
  .next (s1.finish 4 23)

/-- R272 `SLL (IY+d),r`. -/
def execSllIdxIyR (d : Byte) (r : Reg8) (s : State) : Result :=
  let (res, s1) := s.rotMem .sll (s.eaIy d)
  .next ((s1.setR8 r res).finish 4 23)

/-- R273 `SRL (IY+d)`. -/
def execSrlIdxIy (d : Byte) (s : State) : Result :=
  let (_, s1) := s.rotMem .srl (s.eaIy d)
  .next (s1.finish 4 23)

/-- R273 `SRL (IY+d),r`. -/
def execSrlIdxIyR (d : Byte) (r : Reg8) (s : State) : Result :=
  let (res, s1) := s.rotMem .srl (s.eaIy d)
  .next ((s1.setR8 r res).finish 4 23)

end Sys2Proof.Machine
end

