-- ==== Sys2Proof/Machine/Dispatch.lean ====
section
/-! DEFINITION. One arm per instruction: a direct call of its meaning. -/

namespace Sys2Proof.Machine

def exec (i : Instr) (s : State) : Host.Outcome State Fault Refusal :=
  match i with
  -- 8-bit load
  | .ldRR r q => Sys2Proof.Machine.execLdRR r q s
  | .ldRN r n => Sys2Proof.Machine.execLdRN r n s
  | .ldRIndHl r => Sys2Proof.Machine.execLdRIndHl r s
  | .ldIndHlR r => Sys2Proof.Machine.execLdIndHlR r s
  | .ldIndHlN n => Sys2Proof.Machine.execLdIndHlN n s
  | .ldAIndBc => Sys2Proof.Machine.execLdAIndBc s
  | .ldAIndDe => Sys2Proof.Machine.execLdAIndDe s
  | .ldAIndNn nn => Sys2Proof.Machine.execLdAIndNn nn s
  | .ldIndBcA => Sys2Proof.Machine.execLdIndBcA s
  | .ldIndDeA => Sys2Proof.Machine.execLdIndDeA s
  | .ldIndNnA nn => Sys2Proof.Machine.execLdIndNnA nn s
  | .ldAI => Sys2Proof.Machine.execLdAI s
  | .ldAR => Sys2Proof.Machine.execLdAR s
  | .ldIA => Sys2Proof.Machine.execLdIA s
  | .ldRA => Sys2Proof.Machine.execLdRA s
  | .ldRIdxIx r d => Sys2Proof.Machine.execLdRIdxIx r d s
  | .ldIdxIxR d r => Sys2Proof.Machine.execLdIdxIxR d r s
  | .ldIdxIxN d n => Sys2Proof.Machine.execLdIdxIxN d n s
  | .ldPPIx r q => Sys2Proof.Machine.execLdPPIx r q s
  | .ldIxhN n => Sys2Proof.Machine.execLdIxhN n s
  | .ldIxlN n => Sys2Proof.Machine.execLdIxlN n s
  | .ldRIdxIy r d => Sys2Proof.Machine.execLdRIdxIy r d s
  | .ldIdxIyR d r => Sys2Proof.Machine.execLdIdxIyR d r s
  | .ldIdxIyN d n => Sys2Proof.Machine.execLdIdxIyN d n s
  | .ldPPIy r q => Sys2Proof.Machine.execLdPPIy r q s
  | .ldIyhN n => Sys2Proof.Machine.execLdIyhN n s
  | .ldIylN n => Sys2Proof.Machine.execLdIylN n s
  -- 16-bit load
  | .ldDdNn p nn => Sys2Proof.Machine.execLdDdNn p nn s
  | .ldHlIndNn nn => Sys2Proof.Machine.execLdHlIndNn nn s
  | .ldDdIndNn p nn => Sys2Proof.Machine.execLdDdIndNn p nn s
  | .ldIndNnHl nn => Sys2Proof.Machine.execLdIndNnHl nn s
  | .ldIndNnDd nn p => Sys2Proof.Machine.execLdIndNnDd nn p s
  | .ldSpHl => Sys2Proof.Machine.execLdSpHl s
  | .pushQq p => Sys2Proof.Machine.execPushQq p s
  | .popQq p => Sys2Proof.Machine.execPopQq p s
  | .ldIxNn nn => Sys2Proof.Machine.execLdIxNn nn s
  | .ldIxIndNn nn => Sys2Proof.Machine.execLdIxIndNn nn s
  | .ldIndNnIx nn => Sys2Proof.Machine.execLdIndNnIx nn s
  | .ldSpIx => Sys2Proof.Machine.execLdSpIx s
  | .pushIx => Sys2Proof.Machine.execPushIx s
  | .popIx => Sys2Proof.Machine.execPopIx s
  | .ldIyNn nn => Sys2Proof.Machine.execLdIyNn nn s
  | .ldIyIndNn nn => Sys2Proof.Machine.execLdIyIndNn nn s
  | .ldIndNnIy nn => Sys2Proof.Machine.execLdIndNnIy nn s
  | .ldSpIy => Sys2Proof.Machine.execLdSpIy s
  | .pushIy => Sys2Proof.Machine.execPushIy s
  | .popIy => Sys2Proof.Machine.execPopIy s
  -- exchange/block
  | .exDeHl => Sys2Proof.Machine.execExDeHl s
  | .exAfAf => Sys2Proof.Machine.execExAfAf s
  | .exx => Sys2Proof.Machine.execExx s
  | .exIndSpHl => Sys2Proof.Machine.execExIndSpHl s
  | .ldi => Sys2Proof.Machine.execLdi s
  | .ldir => Sys2Proof.Machine.execLdir s
  | .ldd => Sys2Proof.Machine.execLdd s
  | .lddr => Sys2Proof.Machine.execLddr s
  | .cpi => Sys2Proof.Machine.execCpi s
  | .cpir => Sys2Proof.Machine.execCpir s
  | .cpd => Sys2Proof.Machine.execCpd s
  | .cpdr => Sys2Proof.Machine.execCpdr s
  | .exIndSpIx => Sys2Proof.Machine.execExIndSpIx s
  | .exIndSpIy => Sys2Proof.Machine.execExIndSpIy s
  -- general/misc
  | .daa => Sys2Proof.Machine.execDaa s
  | .cpl => Sys2Proof.Machine.execCpl s
  | .neg => Sys2Proof.Machine.execNeg s
  | .ccf => Sys2Proof.Machine.execCcf s
  | .scf => Sys2Proof.Machine.execScf s
  | .nop => Sys2Proof.Machine.execNop s
  | .halt => Sys2Proof.Machine.execHalt s
  | .di => Sys2Proof.Machine.execDi s
  | .ei => Sys2Proof.Machine.execEi s
  | .im0 => Sys2Proof.Machine.execIm0 s
  | .im1 => Sys2Proof.Machine.execIm1 s
  | .im2 => Sys2Proof.Machine.execIm2 s
  -- 8-bit arithmetic
  | .addAR r => Sys2Proof.Machine.execAddAR r s
  | .addAN n => Sys2Proof.Machine.execAddAN n s
  | .addAIndHl => Sys2Proof.Machine.execAddAIndHl s
  | .adcAR r => Sys2Proof.Machine.execAdcAR r s
  | .adcAN n => Sys2Proof.Machine.execAdcAN n s
  | .adcAIndHl => Sys2Proof.Machine.execAdcAIndHl s
  | .subR r => Sys2Proof.Machine.execSubR r s
  | .subN n => Sys2Proof.Machine.execSubN n s
  | .subIndHl => Sys2Proof.Machine.execSubIndHl s
  | .sbcAR r => Sys2Proof.Machine.execSbcAR r s
  | .sbcAN n => Sys2Proof.Machine.execSbcAN n s
  | .sbcAIndHl => Sys2Proof.Machine.execSbcAIndHl s
  | .andR r => Sys2Proof.Machine.execAndR r s
  | .andN n => Sys2Proof.Machine.execAndN n s
  | .andIndHl => Sys2Proof.Machine.execAndIndHl s
  | .xorR r => Sys2Proof.Machine.execXorR r s
  | .xorN n => Sys2Proof.Machine.execXorN n s
  | .xorIndHl => Sys2Proof.Machine.execXorIndHl s
  | .orR r => Sys2Proof.Machine.execOrR r s
  | .orN n => Sys2Proof.Machine.execOrN n s
  | .orIndHl => Sys2Proof.Machine.execOrIndHl s
  | .cpR r => Sys2Proof.Machine.execCpR r s
  | .cpN n => Sys2Proof.Machine.execCpN n s
  | .cpIndHl => Sys2Proof.Machine.execCpIndHl s
  | .incR r => Sys2Proof.Machine.execIncR r s
  | .incIndHl => Sys2Proof.Machine.execIncIndHl s
  | .decR r => Sys2Proof.Machine.execDecR r s
  | .decIndHl => Sys2Proof.Machine.execDecIndHl s
  | .addAIdxIx d => Sys2Proof.Machine.execAddAIdxIx d s
  | .addAIxh => Sys2Proof.Machine.execAddAIxh s
  | .addAIxl => Sys2Proof.Machine.execAddAIxl s
  | .adcAIdxIx d => Sys2Proof.Machine.execAdcAIdxIx d s
  | .adcAIxh => Sys2Proof.Machine.execAdcAIxh s
  | .adcAIxl => Sys2Proof.Machine.execAdcAIxl s
  | .subIdxIx d => Sys2Proof.Machine.execSubIdxIx d s
  | .subIxh => Sys2Proof.Machine.execSubIxh s
  | .subIxl => Sys2Proof.Machine.execSubIxl s
  | .sbcAIdxIx d => Sys2Proof.Machine.execSbcAIdxIx d s
  | .sbcAIxh => Sys2Proof.Machine.execSbcAIxh s
  | .sbcAIxl => Sys2Proof.Machine.execSbcAIxl s
  | .andIdxIx d => Sys2Proof.Machine.execAndIdxIx d s
  | .andIxh => Sys2Proof.Machine.execAndIxh s
  | .andIxl => Sys2Proof.Machine.execAndIxl s
  | .xorIdxIx d => Sys2Proof.Machine.execXorIdxIx d s
  | .xorIxh => Sys2Proof.Machine.execXorIxh s
  | .xorIxl => Sys2Proof.Machine.execXorIxl s
  | .orIdxIx d => Sys2Proof.Machine.execOrIdxIx d s
  | .orIxh => Sys2Proof.Machine.execOrIxh s
  | .orIxl => Sys2Proof.Machine.execOrIxl s
  | .cpIdxIx d => Sys2Proof.Machine.execCpIdxIx d s
  | .cpIxh => Sys2Proof.Machine.execCpIxh s
  | .cpIxl => Sys2Proof.Machine.execCpIxl s
  | .incIdxIx d => Sys2Proof.Machine.execIncIdxIx d s
  | .incIxh => Sys2Proof.Machine.execIncIxh s
  | .incIxl => Sys2Proof.Machine.execIncIxl s
  | .decIdxIx d => Sys2Proof.Machine.execDecIdxIx d s
  | .decIxh => Sys2Proof.Machine.execDecIxh s
  | .decIxl => Sys2Proof.Machine.execDecIxl s
  | .addAIdxIy d => Sys2Proof.Machine.execAddAIdxIy d s
  | .addAIyh => Sys2Proof.Machine.execAddAIyh s
  | .addAIyl => Sys2Proof.Machine.execAddAIyl s
  | .adcAIdxIy d => Sys2Proof.Machine.execAdcAIdxIy d s
  | .adcAIyh => Sys2Proof.Machine.execAdcAIyh s
  | .adcAIyl => Sys2Proof.Machine.execAdcAIyl s
  | .subIdxIy d => Sys2Proof.Machine.execSubIdxIy d s
  | .subIyh => Sys2Proof.Machine.execSubIyh s
  | .subIyl => Sys2Proof.Machine.execSubIyl s
  | .sbcAIdxIy d => Sys2Proof.Machine.execSbcAIdxIy d s
  | .sbcAIyh => Sys2Proof.Machine.execSbcAIyh s
  | .sbcAIyl => Sys2Proof.Machine.execSbcAIyl s
  | .andIdxIy d => Sys2Proof.Machine.execAndIdxIy d s
  | .andIyh => Sys2Proof.Machine.execAndIyh s
  | .andIyl => Sys2Proof.Machine.execAndIyl s
  | .xorIdxIy d => Sys2Proof.Machine.execXorIdxIy d s
  | .xorIyh => Sys2Proof.Machine.execXorIyh s
  | .xorIyl => Sys2Proof.Machine.execXorIyl s
  | .orIdxIy d => Sys2Proof.Machine.execOrIdxIy d s
  | .orIyh => Sys2Proof.Machine.execOrIyh s
  | .orIyl => Sys2Proof.Machine.execOrIyl s
  | .cpIdxIy d => Sys2Proof.Machine.execCpIdxIy d s
  | .cpIyh => Sys2Proof.Machine.execCpIyh s
  | .cpIyl => Sys2Proof.Machine.execCpIyl s
  | .incIdxIy d => Sys2Proof.Machine.execIncIdxIy d s
  | .incIyh => Sys2Proof.Machine.execIncIyh s
  | .incIyl => Sys2Proof.Machine.execIncIyl s
  | .decIdxIy d => Sys2Proof.Machine.execDecIdxIy d s
  | .decIyh => Sys2Proof.Machine.execDecIyh s
  | .decIyl => Sys2Proof.Machine.execDecIyl s
  -- 16-bit arithmetic
  | .addHlSs p => Sys2Proof.Machine.execAddHlSs p s
  | .adcHlSs p => Sys2Proof.Machine.execAdcHlSs p s
  | .sbcHlSs p => Sys2Proof.Machine.execSbcHlSs p s
  | .incSs p => Sys2Proof.Machine.execIncSs p s
  | .decSs p => Sys2Proof.Machine.execDecSs p s
  | .addIxPp p => Sys2Proof.Machine.execAddIxPp p s
  | .incIx => Sys2Proof.Machine.execIncIx s
  | .decIx => Sys2Proof.Machine.execDecIx s
  | .addIyRr p => Sys2Proof.Machine.execAddIyRr p s
  | .incIy => Sys2Proof.Machine.execIncIy s
  | .decIy => Sys2Proof.Machine.execDecIy s
  -- rotate/shift
  | .rlca => Sys2Proof.Machine.execRlca s
  | .rla => Sys2Proof.Machine.execRla s
  | .rrca => Sys2Proof.Machine.execRrca s
  | .rra => Sys2Proof.Machine.execRra s
  | .rlcR r => Sys2Proof.Machine.execRlcR r s
  | .rlcIndHl => Sys2Proof.Machine.execRlcIndHl s
  | .rrcR r => Sys2Proof.Machine.execRrcR r s
  | .rrcIndHl => Sys2Proof.Machine.execRrcIndHl s
  | .rlR r => Sys2Proof.Machine.execRlR r s
  | .rlIndHl => Sys2Proof.Machine.execRlIndHl s
  | .rrR r => Sys2Proof.Machine.execRrR r s
  | .rrIndHl => Sys2Proof.Machine.execRrIndHl s
  | .slaR r => Sys2Proof.Machine.execSlaR r s
  | .slaIndHl => Sys2Proof.Machine.execSlaIndHl s
  | .sraR r => Sys2Proof.Machine.execSraR r s
  | .sraIndHl => Sys2Proof.Machine.execSraIndHl s
  | .sllR r => Sys2Proof.Machine.execSllR r s
  | .sllIndHl => Sys2Proof.Machine.execSllIndHl s
  | .srlR r => Sys2Proof.Machine.execSrlR r s
  | .srlIndHl => Sys2Proof.Machine.execSrlIndHl s
  | .rld => Sys2Proof.Machine.execRld s
  | .rrd => Sys2Proof.Machine.execRrd s
  | .rlcIdxIx d => Sys2Proof.Machine.execRlcIdxIx d s
  | .rlcIdxIxR d r => Sys2Proof.Machine.execRlcIdxIxR d r s
  | .rrcIdxIx d => Sys2Proof.Machine.execRrcIdxIx d s
  | .rrcIdxIxR d r => Sys2Proof.Machine.execRrcIdxIxR d r s
  | .rlIdxIx d => Sys2Proof.Machine.execRlIdxIx d s
  | .rlIdxIxR d r => Sys2Proof.Machine.execRlIdxIxR d r s
  | .rrIdxIx d => Sys2Proof.Machine.execRrIdxIx d s
  | .rrIdxIxR d r => Sys2Proof.Machine.execRrIdxIxR d r s
  | .slaIdxIx d => Sys2Proof.Machine.execSlaIdxIx d s
  | .slaIdxIxR d r => Sys2Proof.Machine.execSlaIdxIxR d r s
  | .sraIdxIx d => Sys2Proof.Machine.execSraIdxIx d s
  | .sraIdxIxR d r => Sys2Proof.Machine.execSraIdxIxR d r s
  | .sllIdxIx d => Sys2Proof.Machine.execSllIdxIx d s
  | .sllIdxIxR d r => Sys2Proof.Machine.execSllIdxIxR d r s
  | .srlIdxIx d => Sys2Proof.Machine.execSrlIdxIx d s
  | .srlIdxIxR d r => Sys2Proof.Machine.execSrlIdxIxR d r s
  | .rlcIdxIy d => Sys2Proof.Machine.execRlcIdxIy d s
  | .rlcIdxIyR d r => Sys2Proof.Machine.execRlcIdxIyR d r s
  | .rrcIdxIy d => Sys2Proof.Machine.execRrcIdxIy d s
  | .rrcIdxIyR d r => Sys2Proof.Machine.execRrcIdxIyR d r s
  | .rlIdxIy d => Sys2Proof.Machine.execRlIdxIy d s
  | .rlIdxIyR d r => Sys2Proof.Machine.execRlIdxIyR d r s
  | .rrIdxIy d => Sys2Proof.Machine.execRrIdxIy d s
  | .rrIdxIyR d r => Sys2Proof.Machine.execRrIdxIyR d r s
  | .slaIdxIy d => Sys2Proof.Machine.execSlaIdxIy d s
  | .slaIdxIyR d r => Sys2Proof.Machine.execSlaIdxIyR d r s
  | .sraIdxIy d => Sys2Proof.Machine.execSraIdxIy d s
  | .sraIdxIyR d r => Sys2Proof.Machine.execSraIdxIyR d r s
  | .sllIdxIy d => Sys2Proof.Machine.execSllIdxIy d s
  | .sllIdxIyR d r => Sys2Proof.Machine.execSllIdxIyR d r s
  | .srlIdxIy d => Sys2Proof.Machine.execSrlIdxIy d s
  | .srlIdxIyR d r => Sys2Proof.Machine.execSrlIdxIyR d r s
  -- bit
  | .bitBR b r => Sys2Proof.Machine.execBitBR b r s
  | .bitBIndHl b => Sys2Proof.Machine.execBitBIndHl b s
  | .setBR b r => Sys2Proof.Machine.execSetBR b r s
  | .setBIndHl b => Sys2Proof.Machine.execSetBIndHl b s
  | .resBR b r => Sys2Proof.Machine.execResBR b r s
  | .resBIndHl b => Sys2Proof.Machine.execResBIndHl b s
  | .bitBIdxIx b d => Sys2Proof.Machine.execBitBIdxIx b d s
  | .bitBIdxIxMirror b d r => Sys2Proof.Machine.execBitBIdxIxMirror b d r s
  | .setBIdxIx b d => Sys2Proof.Machine.execSetBIdxIx b d s
  | .setBIdxIxR b d r => Sys2Proof.Machine.execSetBIdxIxR b d r s
  | .resBIdxIx b d => Sys2Proof.Machine.execResBIdxIx b d s
  | .resBIdxIxR b d r => Sys2Proof.Machine.execResBIdxIxR b d r s
  | .bitBIdxIy b d => Sys2Proof.Machine.execBitBIdxIy b d s
  | .bitBIdxIyMirror b d r => Sys2Proof.Machine.execBitBIdxIyMirror b d r s
  | .setBIdxIy b d => Sys2Proof.Machine.execSetBIdxIy b d s
  | .setBIdxIyR b d r => Sys2Proof.Machine.execSetBIdxIyR b d r s
  | .resBIdxIy b d => Sys2Proof.Machine.execResBIdxIy b d s
  | .resBIdxIyR b d r => Sys2Proof.Machine.execResBIdxIyR b d r s
  -- jump
  | .jpNn nn => Sys2Proof.Machine.execJpNn nn s
  | .jpCcNn cc nn => Sys2Proof.Machine.execJpCcNn cc nn s
  | .jrE e => Sys2Proof.Machine.execJrE e s
  | .jrCE e => Sys2Proof.Machine.execJrCE e s
  | .jrNcE e => Sys2Proof.Machine.execJrNcE e s
  | .jrZE e => Sys2Proof.Machine.execJrZE e s
  | .jrNzE e => Sys2Proof.Machine.execJrNzE e s
  | .jpHl => Sys2Proof.Machine.execJpHl s
  | .djnzE e => Sys2Proof.Machine.execDjnzE e s
  | .jpIx => Sys2Proof.Machine.execJpIx s
  | .jpIy => Sys2Proof.Machine.execJpIy s
  -- call/return
  | .callNn nn => Sys2Proof.Machine.execCallNn nn s
  | .callCcNn cc nn => Sys2Proof.Machine.execCallCcNn cc nn s
  | .ret => Sys2Proof.Machine.execRet s
  | .retCc cc => Sys2Proof.Machine.execRetCc cc s
  | .reti => Sys2Proof.Machine.execReti s
  | .retn => Sys2Proof.Machine.execRetn s
  | .rstP t => Sys2Proof.Machine.execRstP t s
  -- input/output
  | .inAPortN n => Sys2Proof.Machine.execInAPortN n s
  | .inRPortC r => Sys2Proof.Machine.execInRPortC r s
  | .ini => Sys2Proof.Machine.execIni s
  | .inir => Sys2Proof.Machine.execInir s
  | .ind => Sys2Proof.Machine.execInd s
  | .indr => Sys2Proof.Machine.execIndr s
  | .outPortNA n => Sys2Proof.Machine.execOutPortNA n s
  | .outPortCR r => Sys2Proof.Machine.execOutPortCR r s
  | .outi => Sys2Proof.Machine.execOuti s
  | .otir => Sys2Proof.Machine.execOtir s
  | .outd => Sys2Proof.Machine.execOutd s
  | .otdr => Sys2Proof.Machine.execOtdr s

end Sys2Proof.Machine
end

