-- ==== Sys2Proof/Decode.lean ====
section
/-! DEFINITION. Decoding: the opcode table's rows space by space (R83, R90 to R94), total on any four bytes, rejecting by name (R95, R98); then the encoder, written from the same encodings. -/

namespace Sys2Proof

open Machine

/-! ### Selectors: codes to names (R22 to R28, R85) -/

/-- Selector `r8` (R22): code 110 names no register. -/
def Reg8.ofCode (k : BitVec 3) : Option Reg8 :=
  match k.toNat with
  | 0 => some .b
  | 1 => some .c
  | 2 => some .d
  | 3 => some .e
  | 4 => some .h
  | 5 => some .l
  | 6 => none
  | _ => some .a

/-- Selector `p8` (R28). -/
def RegP.ofCode (k : BitVec 3) : Option RegP :=
  match k.toNat with
  | 0 => some .b
  | 1 => some .c
  | 2 => some .d
  | 3 => some .e
  | 4 => some .ixh
  | 5 => some .ixl
  | 6 => none
  | _ => some .a

/-- Selector `q8` (R28). -/
def RegQ.ofCode (k : BitVec 3) : Option RegQ :=
  match k.toNat with
  | 0 => some .b
  | 1 => some .c
  | 2 => some .d
  | 3 => some .e
  | 4 => some .iyh
  | 5 => some .iyl
  | 6 => none
  | _ => some .a

/-- Selector `dd` (R23). -/
def PairDd.ofCode (k : BitVec 2) : PairDd :=
  match k.toNat with
  | 0 => .bc
  | 1 => .de
  | 2 => .hl
  | _ => .sp

/-- Selector `qq` (R24). -/
def PairQq.ofCode (k : BitVec 2) : PairQq :=
  match k.toNat with
  | 0 => .bc
  | 1 => .de
  | 2 => .hl
  | _ => .af

/-- Selector `pp` (R25). -/
def PairPp.ofCode (k : BitVec 2) : PairPp :=
  match k.toNat with
  | 0 => .bc
  | 1 => .de
  | 2 => .ix
  | _ => .sp

/-- Selector `rr` (R26). -/
def PairRr.ofCode (k : BitVec 2) : PairRr :=
  match k.toNat with
  | 0 => .bc
  | 1 => .de
  | 2 => .iy
  | _ => .sp

/-- Condition codes (R85). -/
def Cond.ofCode (k : BitVec 3) : Cond :=
  match k.toNat with
  | 0 => .nz
  | 1 => .z
  | 2 => .nc
  | 3 => .c
  | 4 => .po
  | 5 => .pe
  | 6 => .p
  | _ => .m

/-! ### The table -/

/-- A row of the opcode table: its mnemonic there, whether it is documented (R97), mask and pattern of
its opcode byte, and the instruction it makes from its opcode byte `op` and the look-ahead bytes
`b1 b2 b3`, where no field holds an excluded code. -/
structure Row where
  mnemonic : String
  documented : Bool
  mask : Byte
  pat : Byte
  build : Byte → Byte → Byte → Byte → Option Instr

/-- Does the row take this opcode byte, operand bytes aside? -/
def Row.takes (r : Row) (op b1 b2 b3 : Byte) : Option Instr :=
  if op &&& r.mask = r.pat then r.build op b1 b2 b3 else none

/-- An operand that is an index half (R28). -/
def RegP.isHalf : RegP → Bool
  | .ixh => true
  | .ixl => true
  | .b => false
  | .c => false
  | .d => false
  | .e => false
  | .a => false

/-- An operand that is an index half (R28). -/
def RegQ.isHalf : RegQ → Bool
  | .iyh => true
  | .iyl => true
  | .b => false
  | .c => false
  | .d => false
  | .e => false
  | .a => false

/-- `LD p,p'` in the DD space: at least one operand is an index half (R159). -/
def halfPairIx (r q : RegP) : Option Instr := if r.isHalf || q.isHalf then some (.ldPPIx r q) else none

/-- `LD p,p'` in the FD space: at least one operand is an index half (R159). -/
def halfPairIy (r q : RegQ) : Option Instr := if r.isHalf || q.isHalf then some (.ldPPIy r q) else none

/-- Main space: opcode `b0` (R90), part 1. -/
def mainRows1 : List Row := [
  ⟨"LD_r_r", true, 0xC0#8, 0x40#8, fun op _ _ _ => do return .ldRR (← Reg8.ofCode (bits53 op)) (← Reg8.ofCode (bits20 op))⟩,
  ⟨"LD_r_n", true, 0xC7#8, 0x06#8, fun op b1 _ _ => do return .ldRN (← Reg8.ofCode (bits53 op)) b1⟩,
  ⟨"LD_r__HL", true, 0xC7#8, 0x46#8, fun op _ _ _ => do return .ldRIndHl (← Reg8.ofCode (bits53 op))⟩,
  ⟨"LD__HL__r", true, 0xF8#8, 0x70#8, fun op _ _ _ => do return .ldIndHlR (← Reg8.ofCode (bits20 op))⟩,
  ⟨"LD__HL__n", true, 0xFF#8, 0x36#8, fun _ b1 _ _ => some (.ldIndHlN b1)⟩,
  ⟨"LD_A__BC", true, 0xFF#8, 0x0A#8, fun _ _ _ _ => some .ldAIndBc⟩,
  ⟨"LD_A__DE", true, 0xFF#8, 0x1A#8, fun _ _ _ _ => some .ldAIndDe⟩,
  ⟨"LD_A__nn", true, 0xFF#8, 0x3A#8, fun _ b1 b2 _ => some (.ldAIndNn (pair b2 b1))⟩,
  ⟨"LD__BC__A", true, 0xFF#8, 0x02#8, fun _ _ _ _ => some .ldIndBcA⟩,
  ⟨"LD__DE__A", true, 0xFF#8, 0x12#8, fun _ _ _ _ => some .ldIndDeA⟩,
  ⟨"LD__nn__A", true, 0xFF#8, 0x32#8, fun _ b1 b2 _ => some (.ldIndNnA (pair b2 b1))⟩,
  ⟨"LD_dd_nn", true, 0xCF#8, 0x01#8, fun op b1 b2 _ => some (.ldDdNn (PairDd.ofCode (bits54 op)) (pair b2 b1))⟩,
  ⟨"LD_HL__nn", true, 0xFF#8, 0x2A#8, fun _ b1 b2 _ => some (.ldHlIndNn (pair b2 b1))⟩,
  ⟨"LD__nn__HL", true, 0xFF#8, 0x22#8, fun _ b1 b2 _ => some (.ldIndNnHl (pair b2 b1))⟩,
  ⟨"LD_SP_HL", true, 0xFF#8, 0xF9#8, fun _ _ _ _ => some .ldSpHl⟩,
  ⟨"PUSH_qq", true, 0xCF#8, 0xC5#8, fun op _ _ _ => some (.pushQq (PairQq.ofCode (bits54 op)))⟩,
  ⟨"POP_qq", true, 0xCF#8, 0xC1#8, fun op _ _ _ => some (.popQq (PairQq.ofCode (bits54 op)))⟩,
  ⟨"EX_DE_HL", true, 0xFF#8, 0xEB#8, fun _ _ _ _ => some .exDeHl⟩,
  ⟨"EX_AF_AF", true, 0xFF#8, 0x08#8, fun _ _ _ _ => some .exAfAf⟩,
  ⟨"EXX", true, 0xFF#8, 0xD9#8, fun _ _ _ _ => some .exx⟩,
  ⟨"EX__SP__HL", true, 0xFF#8, 0xE3#8, fun _ _ _ _ => some .exIndSpHl⟩,
  ⟨"DAA", true, 0xFF#8, 0x27#8, fun _ _ _ _ => some .daa⟩,
  ⟨"CPL", true, 0xFF#8, 0x2F#8, fun _ _ _ _ => some .cpl⟩,
  ⟨"CCF", true, 0xFF#8, 0x3F#8, fun _ _ _ _ => some .ccf⟩]

/-- Main space: opcode `b0` (R90), part 2. -/
def mainRows2 : List Row := [
  ⟨"SCF", true, 0xFF#8, 0x37#8, fun _ _ _ _ => some .scf⟩,
  ⟨"NOP", true, 0xFF#8, 0x00#8, fun _ _ _ _ => some .nop⟩,
  ⟨"HALT", true, 0xFF#8, 0x76#8, fun _ _ _ _ => some .halt⟩,
  ⟨"DI", true, 0xFF#8, 0xF3#8, fun _ _ _ _ => some .di⟩,
  ⟨"EI", true, 0xFF#8, 0xFB#8, fun _ _ _ _ => some .ei⟩,
  ⟨"ADD_A_r", true, 0xF8#8, 0x80#8, fun op _ _ _ => do return .addAR (← Reg8.ofCode (bits20 op))⟩,
  ⟨"ADD_A_n", true, 0xFF#8, 0xC6#8, fun _ b1 _ _ => some (.addAN b1)⟩,
  ⟨"ADD_A__HL", true, 0xFF#8, 0x86#8, fun _ _ _ _ => some .addAIndHl⟩,
  ⟨"ADC_A_r", true, 0xF8#8, 0x88#8, fun op _ _ _ => do return .adcAR (← Reg8.ofCode (bits20 op))⟩,
  ⟨"ADC_A_n", true, 0xFF#8, 0xCE#8, fun _ b1 _ _ => some (.adcAN b1)⟩,
  ⟨"ADC_A__HL", true, 0xFF#8, 0x8E#8, fun _ _ _ _ => some .adcAIndHl⟩,
  ⟨"SUB_r", true, 0xF8#8, 0x90#8, fun op _ _ _ => do return .subR (← Reg8.ofCode (bits20 op))⟩,
  ⟨"SUB_n", true, 0xFF#8, 0xD6#8, fun _ b1 _ _ => some (.subN b1)⟩,
  ⟨"SUB__HL", true, 0xFF#8, 0x96#8, fun _ _ _ _ => some .subIndHl⟩,
  ⟨"SBC_A_r", true, 0xF8#8, 0x98#8, fun op _ _ _ => do return .sbcAR (← Reg8.ofCode (bits20 op))⟩,
  ⟨"SBC_A_n", true, 0xFF#8, 0xDE#8, fun _ b1 _ _ => some (.sbcAN b1)⟩,
  ⟨"SBC_A__HL", true, 0xFF#8, 0x9E#8, fun _ _ _ _ => some .sbcAIndHl⟩,
  ⟨"AND_r", true, 0xF8#8, 0xA0#8, fun op _ _ _ => do return .andR (← Reg8.ofCode (bits20 op))⟩,
  ⟨"AND_n", true, 0xFF#8, 0xE6#8, fun _ b1 _ _ => some (.andN b1)⟩,
  ⟨"AND__HL", true, 0xFF#8, 0xA6#8, fun _ _ _ _ => some .andIndHl⟩,
  ⟨"XOR_r", true, 0xF8#8, 0xA8#8, fun op _ _ _ => do return .xorR (← Reg8.ofCode (bits20 op))⟩,
  ⟨"XOR_n", true, 0xFF#8, 0xEE#8, fun _ b1 _ _ => some (.xorN b1)⟩,
  ⟨"XOR__HL", true, 0xFF#8, 0xAE#8, fun _ _ _ _ => some .xorIndHl⟩,
  ⟨"OR_r", true, 0xF8#8, 0xB0#8, fun op _ _ _ => do return .orR (← Reg8.ofCode (bits20 op))⟩]

/-- Main space: opcode `b0` (R90), part 3. -/
def mainRows3 : List Row := [
  ⟨"OR_n", true, 0xFF#8, 0xF6#8, fun _ b1 _ _ => some (.orN b1)⟩,
  ⟨"OR__HL", true, 0xFF#8, 0xB6#8, fun _ _ _ _ => some .orIndHl⟩,
  ⟨"CP_r", true, 0xF8#8, 0xB8#8, fun op _ _ _ => do return .cpR (← Reg8.ofCode (bits20 op))⟩,
  ⟨"CP_n", true, 0xFF#8, 0xFE#8, fun _ b1 _ _ => some (.cpN b1)⟩,
  ⟨"CP__HL", true, 0xFF#8, 0xBE#8, fun _ _ _ _ => some .cpIndHl⟩,
  ⟨"INC_r", true, 0xC7#8, 0x04#8, fun op _ _ _ => do return .incR (← Reg8.ofCode (bits53 op))⟩,
  ⟨"INC__HL", true, 0xFF#8, 0x34#8, fun _ _ _ _ => some .incIndHl⟩,
  ⟨"DEC_r", true, 0xC7#8, 0x05#8, fun op _ _ _ => do return .decR (← Reg8.ofCode (bits53 op))⟩,
  ⟨"DEC__HL", true, 0xFF#8, 0x35#8, fun _ _ _ _ => some .decIndHl⟩,
  ⟨"ADD_HL_ss", true, 0xCF#8, 0x09#8, fun op _ _ _ => some (.addHlSs (PairDd.ofCode (bits54 op)))⟩,
  ⟨"INC_ss", true, 0xCF#8, 0x03#8, fun op _ _ _ => some (.incSs (PairDd.ofCode (bits54 op)))⟩,
  ⟨"DEC_ss", true, 0xCF#8, 0x0B#8, fun op _ _ _ => some (.decSs (PairDd.ofCode (bits54 op)))⟩,
  ⟨"RLCA", true, 0xFF#8, 0x07#8, fun _ _ _ _ => some .rlca⟩,
  ⟨"RLA", true, 0xFF#8, 0x17#8, fun _ _ _ _ => some .rla⟩,
  ⟨"RRCA", true, 0xFF#8, 0x0F#8, fun _ _ _ _ => some .rrca⟩,
  ⟨"RRA", true, 0xFF#8, 0x1F#8, fun _ _ _ _ => some .rra⟩,
  ⟨"JP_nn", true, 0xFF#8, 0xC3#8, fun _ b1 b2 _ => some (.jpNn (pair b2 b1))⟩,
  ⟨"JP_cc_nn", true, 0xC7#8, 0xC2#8, fun op b1 b2 _ => some (.jpCcNn (Cond.ofCode (bits53 op)) (pair b2 b1))⟩,
  ⟨"JR_e", true, 0xFF#8, 0x18#8, fun _ b1 _ _ => some (.jrE b1)⟩,
  ⟨"JR_C_e", true, 0xFF#8, 0x38#8, fun _ b1 _ _ => some (.jrCE b1)⟩,
  ⟨"JR_NC_e", true, 0xFF#8, 0x30#8, fun _ b1 _ _ => some (.jrNcE b1)⟩,
  ⟨"JR_Z_e", true, 0xFF#8, 0x28#8, fun _ b1 _ _ => some (.jrZE b1)⟩,
  ⟨"JR_NZ_e", true, 0xFF#8, 0x20#8, fun _ b1 _ _ => some (.jrNzE b1)⟩,
  ⟨"JP__HL", true, 0xFF#8, 0xE9#8, fun _ _ _ _ => some .jpHl⟩]

/-- Main space: opcode `b0` (R90), part 4. -/
def mainRows4 : List Row := [
  ⟨"DJNZ_e", true, 0xFF#8, 0x10#8, fun _ b1 _ _ => some (.djnzE b1)⟩,
  ⟨"CALL_nn", true, 0xFF#8, 0xCD#8, fun _ b1 b2 _ => some (.callNn (pair b2 b1))⟩,
  ⟨"CALL_cc_nn", true, 0xC7#8, 0xC4#8, fun op b1 b2 _ => some (.callCcNn (Cond.ofCode (bits53 op)) (pair b2 b1))⟩,
  ⟨"RET", true, 0xFF#8, 0xC9#8, fun _ _ _ _ => some .ret⟩,
  ⟨"RET_cc", true, 0xC7#8, 0xC0#8, fun op _ _ _ => some (.retCc (Cond.ofCode (bits53 op)))⟩,
  ⟨"RST_p", true, 0xC7#8, 0xC7#8, fun op _ _ _ => some (.rstP (bits53 op))⟩,
  ⟨"IN_A__n", true, 0xFF#8, 0xDB#8, fun _ b1 _ _ => some (.inAPortN b1)⟩,
  ⟨"OUT__n__A", true, 0xFF#8, 0xD3#8, fun _ b1 _ _ => some (.outPortNA b1)⟩]

/-- Main space: opcode `b0` (R90). -/
def mainRows : List Row := mainRows1 ++ mainRows2 ++ mainRows3 ++ mainRows4

/-- Space CB: opcode `b1` (R91). -/
def cbRows : List Row := [
  ⟨"RLC_r", true, 0xF8#8, 0x00#8, fun op _ _ _ => do return .rlcR (← Reg8.ofCode (bits20 op))⟩,
  ⟨"RLC__HL", true, 0xFF#8, 0x06#8, fun _ _ _ _ => some .rlcIndHl⟩,
  ⟨"RRC_r", true, 0xF8#8, 0x08#8, fun op _ _ _ => do return .rrcR (← Reg8.ofCode (bits20 op))⟩,
  ⟨"RRC__HL", true, 0xFF#8, 0x0E#8, fun _ _ _ _ => some .rrcIndHl⟩,
  ⟨"RL_r", true, 0xF8#8, 0x10#8, fun op _ _ _ => do return .rlR (← Reg8.ofCode (bits20 op))⟩,
  ⟨"RL__HL", true, 0xFF#8, 0x16#8, fun _ _ _ _ => some .rlIndHl⟩,
  ⟨"RR_r", true, 0xF8#8, 0x18#8, fun op _ _ _ => do return .rrR (← Reg8.ofCode (bits20 op))⟩,
  ⟨"RR__HL", true, 0xFF#8, 0x1E#8, fun _ _ _ _ => some .rrIndHl⟩,
  ⟨"SLA_r", true, 0xF8#8, 0x20#8, fun op _ _ _ => do return .slaR (← Reg8.ofCode (bits20 op))⟩,
  ⟨"SLA__HL", true, 0xFF#8, 0x26#8, fun _ _ _ _ => some .slaIndHl⟩,
  ⟨"SRA_r", true, 0xF8#8, 0x28#8, fun op _ _ _ => do return .sraR (← Reg8.ofCode (bits20 op))⟩,
  ⟨"SRA__HL", true, 0xFF#8, 0x2E#8, fun _ _ _ _ => some .sraIndHl⟩,
  ⟨"SLL_r", false, 0xF8#8, 0x30#8, fun op _ _ _ => do return .sllR (← Reg8.ofCode (bits20 op))⟩,
  ⟨"SLL__HL", false, 0xFF#8, 0x36#8, fun _ _ _ _ => some .sllIndHl⟩,
  ⟨"SRL_r", true, 0xF8#8, 0x38#8, fun op _ _ _ => do return .srlR (← Reg8.ofCode (bits20 op))⟩,
  ⟨"SRL__HL", true, 0xFF#8, 0x3E#8, fun _ _ _ _ => some .srlIndHl⟩,
  ⟨"BIT_b_r", true, 0xC0#8, 0x40#8, fun op _ _ _ => do return .bitBR (bits53 op) (← Reg8.ofCode (bits20 op))⟩,
  ⟨"BIT_b__HL", true, 0xC7#8, 0x46#8, fun op _ _ _ => some (.bitBIndHl (bits53 op))⟩,
  ⟨"SET_b_r", true, 0xC0#8, 0xC0#8, fun op _ _ _ => do return .setBR (bits53 op) (← Reg8.ofCode (bits20 op))⟩,
  ⟨"SET_b__HL", true, 0xC7#8, 0xC6#8, fun op _ _ _ => some (.setBIndHl (bits53 op))⟩,
  ⟨"RES_b_r", true, 0xC0#8, 0x80#8, fun op _ _ _ => do return .resBR (bits53 op) (← Reg8.ofCode (bits20 op))⟩,
  ⟨"RES_b__HL", true, 0xC7#8, 0x86#8, fun op _ _ _ => some (.resBIndHl (bits53 op))⟩]

/-- Space ED: opcode `b1` (R92), part 1. -/
def edRows1 : List Row := [
  ⟨"LD_A_I", true, 0xFF#8, 0x57#8, fun _ _ _ _ => some .ldAI⟩,
  ⟨"LD_A_R", true, 0xFF#8, 0x5F#8, fun _ _ _ _ => some .ldAR⟩,
  ⟨"LD_I_A", true, 0xFF#8, 0x47#8, fun _ _ _ _ => some .ldIA⟩,
  ⟨"LD_R_A", true, 0xFF#8, 0x4F#8, fun _ _ _ _ => some .ldRA⟩,
  ⟨"LD_dd__nn", true, 0xCF#8, 0x4B#8, fun op _ b2 b3 => some (.ldDdIndNn (PairDd.ofCode (bits54 op)) (pair b3 b2))⟩,
  ⟨"LD__nn__dd", true, 0xCF#8, 0x43#8, fun op _ b2 b3 => some (.ldIndNnDd (pair b3 b2) (PairDd.ofCode (bits54 op)))⟩,
  ⟨"LDI", true, 0xFF#8, 0xA0#8, fun _ _ _ _ => some .ldi⟩,
  ⟨"LDIR", true, 0xFF#8, 0xB0#8, fun _ _ _ _ => some .ldir⟩,
  ⟨"LDD", true, 0xFF#8, 0xA8#8, fun _ _ _ _ => some .ldd⟩,
  ⟨"LDDR", true, 0xFF#8, 0xB8#8, fun _ _ _ _ => some .lddr⟩,
  ⟨"CPI", true, 0xFF#8, 0xA1#8, fun _ _ _ _ => some .cpi⟩,
  ⟨"CPIR", true, 0xFF#8, 0xB1#8, fun _ _ _ _ => some .cpir⟩,
  ⟨"CPD", true, 0xFF#8, 0xA9#8, fun _ _ _ _ => some .cpd⟩,
  ⟨"CPDR", true, 0xFF#8, 0xB9#8, fun _ _ _ _ => some .cpdr⟩,
  ⟨"NEG", true, 0xFF#8, 0x44#8, fun _ _ _ _ => some .neg⟩,
  ⟨"IM_0", true, 0xFF#8, 0x46#8, fun _ _ _ _ => some .im0⟩,
  ⟨"IM_1", true, 0xFF#8, 0x56#8, fun _ _ _ _ => some .im1⟩,
  ⟨"IM_2", true, 0xFF#8, 0x5E#8, fun _ _ _ _ => some .im2⟩,
  ⟨"ADC_HL_ss", true, 0xCF#8, 0x4A#8, fun op _ _ _ => some (.adcHlSs (PairDd.ofCode (bits54 op)))⟩,
  ⟨"SBC_HL_ss", true, 0xCF#8, 0x42#8, fun op _ _ _ => some (.sbcHlSs (PairDd.ofCode (bits54 op)))⟩,
  ⟨"RLD", true, 0xFF#8, 0x6F#8, fun _ _ _ _ => some .rld⟩,
  ⟨"RRD", true, 0xFF#8, 0x67#8, fun _ _ _ _ => some .rrd⟩,
  ⟨"RETI", true, 0xFF#8, 0x4D#8, fun _ _ _ _ => some .reti⟩,
  ⟨"RETN", true, 0xFF#8, 0x45#8, fun _ _ _ _ => some .retn⟩]

/-- Space ED: opcode `b1` (R92), part 2. -/
def edRows2 : List Row := [
  ⟨"IN_r__C", true, 0xC7#8, 0x40#8, fun op _ _ _ => do return .inRPortC (← Reg8.ofCode (bits53 op))⟩,
  ⟨"INI", true, 0xFF#8, 0xA2#8, fun _ _ _ _ => some .ini⟩,
  ⟨"INIR", true, 0xFF#8, 0xB2#8, fun _ _ _ _ => some .inir⟩,
  ⟨"IND", true, 0xFF#8, 0xAA#8, fun _ _ _ _ => some .ind⟩,
  ⟨"INDR", true, 0xFF#8, 0xBA#8, fun _ _ _ _ => some .indr⟩,
  ⟨"OUT__C__r", true, 0xC7#8, 0x41#8, fun op _ _ _ => do return .outPortCR (← Reg8.ofCode (bits53 op))⟩,
  ⟨"OUTI", true, 0xFF#8, 0xA3#8, fun _ _ _ _ => some .outi⟩,
  ⟨"OTIR", true, 0xFF#8, 0xB3#8, fun _ _ _ _ => some .otir⟩,
  ⟨"OUTD", true, 0xFF#8, 0xAB#8, fun _ _ _ _ => some .outd⟩,
  ⟨"OTDR", true, 0xFF#8, 0xBB#8, fun _ _ _ _ => some .otdr⟩]

/-- Space ED: opcode `b1` (R92). -/
def edRows : List Row := edRows1 ++ edRows2

/-- Space DD: opcode `b1`, not CB (R93), part 1. -/
def ddRows1 : List Row := [
  ⟨"LD_r__IX+d", true, 0xC7#8, 0x46#8, fun op _ b2 _ => do return .ldRIdxIx (← Reg8.ofCode (bits53 op)) b2⟩,
  ⟨"LD__IX+d__r", true, 0xF8#8, 0x70#8, fun op _ b2 _ => do return .ldIdxIxR b2 (← Reg8.ofCode (bits20 op))⟩,
  ⟨"LD__IX+d__n", true, 0xFF#8, 0x36#8, fun _ _ b2 b3 => some (.ldIdxIxN b2 b3)⟩,
  ⟨"LD_p_p___IX", false, 0xC0#8, 0x40#8, fun op _ _ _ => do halfPairIx (← RegP.ofCode (bits53 op)) (← RegP.ofCode (bits20 op))⟩,
  ⟨"LD_IXH_n", false, 0xFF#8, 0x26#8, fun _ _ b2 _ => some (.ldIxhN b2)⟩,
  ⟨"LD_IXL_n", false, 0xFF#8, 0x2E#8, fun _ _ b2 _ => some (.ldIxlN b2)⟩,
  ⟨"LD_IX_nn", true, 0xFF#8, 0x21#8, fun _ _ b2 b3 => some (.ldIxNn (pair b3 b2))⟩,
  ⟨"LD_IX__nn", true, 0xFF#8, 0x2A#8, fun _ _ b2 b3 => some (.ldIxIndNn (pair b3 b2))⟩,
  ⟨"LD__nn__IX", true, 0xFF#8, 0x22#8, fun _ _ b2 b3 => some (.ldIndNnIx (pair b3 b2))⟩,
  ⟨"LD_SP_IX", true, 0xFF#8, 0xF9#8, fun _ _ _ _ => some .ldSpIx⟩,
  ⟨"PUSH_IX", true, 0xFF#8, 0xE5#8, fun _ _ _ _ => some .pushIx⟩,
  ⟨"POP_IX", true, 0xFF#8, 0xE1#8, fun _ _ _ _ => some .popIx⟩,
  ⟨"EX__SP__IX", true, 0xFF#8, 0xE3#8, fun _ _ _ _ => some .exIndSpIx⟩,
  ⟨"ADD_A__IX+d", true, 0xFF#8, 0x86#8, fun _ _ b2 _ => some (.addAIdxIx b2)⟩,
  ⟨"ADD_A_IXH", false, 0xFF#8, 0x84#8, fun _ _ _ _ => some .addAIxh⟩,
  ⟨"ADD_A_IXL", false, 0xFF#8, 0x85#8, fun _ _ _ _ => some .addAIxl⟩,
  ⟨"ADC_A__IX+d", true, 0xFF#8, 0x8E#8, fun _ _ b2 _ => some (.adcAIdxIx b2)⟩,
  ⟨"ADC_A_IXH", false, 0xFF#8, 0x8C#8, fun _ _ _ _ => some .adcAIxh⟩,
  ⟨"ADC_A_IXL", false, 0xFF#8, 0x8D#8, fun _ _ _ _ => some .adcAIxl⟩,
  ⟨"SUB__IX+d", true, 0xFF#8, 0x96#8, fun _ _ b2 _ => some (.subIdxIx b2)⟩,
  ⟨"SUB_IXH", false, 0xFF#8, 0x94#8, fun _ _ _ _ => some .subIxh⟩,
  ⟨"SUB_IXL", false, 0xFF#8, 0x95#8, fun _ _ _ _ => some .subIxl⟩,
  ⟨"SBC_A__IX+d", true, 0xFF#8, 0x9E#8, fun _ _ b2 _ => some (.sbcAIdxIx b2)⟩,
  ⟨"SBC_A_IXH", false, 0xFF#8, 0x9C#8, fun _ _ _ _ => some .sbcAIxh⟩]

/-- Space DD: opcode `b1`, not CB (R93), part 2. -/
def ddRows2 : List Row := [
  ⟨"SBC_A_IXL", false, 0xFF#8, 0x9D#8, fun _ _ _ _ => some .sbcAIxl⟩,
  ⟨"AND__IX+d", true, 0xFF#8, 0xA6#8, fun _ _ b2 _ => some (.andIdxIx b2)⟩,
  ⟨"AND_IXH", false, 0xFF#8, 0xA4#8, fun _ _ _ _ => some .andIxh⟩,
  ⟨"AND_IXL", false, 0xFF#8, 0xA5#8, fun _ _ _ _ => some .andIxl⟩,
  ⟨"XOR__IX+d", true, 0xFF#8, 0xAE#8, fun _ _ b2 _ => some (.xorIdxIx b2)⟩,
  ⟨"XOR_IXH", false, 0xFF#8, 0xAC#8, fun _ _ _ _ => some .xorIxh⟩,
  ⟨"XOR_IXL", false, 0xFF#8, 0xAD#8, fun _ _ _ _ => some .xorIxl⟩,
  ⟨"OR__IX+d", true, 0xFF#8, 0xB6#8, fun _ _ b2 _ => some (.orIdxIx b2)⟩,
  ⟨"OR_IXH", false, 0xFF#8, 0xB4#8, fun _ _ _ _ => some .orIxh⟩,
  ⟨"OR_IXL", false, 0xFF#8, 0xB5#8, fun _ _ _ _ => some .orIxl⟩,
  ⟨"CP__IX+d", true, 0xFF#8, 0xBE#8, fun _ _ b2 _ => some (.cpIdxIx b2)⟩,
  ⟨"CP_IXH", false, 0xFF#8, 0xBC#8, fun _ _ _ _ => some .cpIxh⟩,
  ⟨"CP_IXL", false, 0xFF#8, 0xBD#8, fun _ _ _ _ => some .cpIxl⟩,
  ⟨"INC__IX+d", true, 0xFF#8, 0x34#8, fun _ _ b2 _ => some (.incIdxIx b2)⟩,
  ⟨"INC_IXH", false, 0xFF#8, 0x24#8, fun _ _ _ _ => some .incIxh⟩,
  ⟨"INC_IXL", false, 0xFF#8, 0x2C#8, fun _ _ _ _ => some .incIxl⟩,
  ⟨"DEC__IX+d", true, 0xFF#8, 0x35#8, fun _ _ b2 _ => some (.decIdxIx b2)⟩,
  ⟨"DEC_IXH", false, 0xFF#8, 0x25#8, fun _ _ _ _ => some .decIxh⟩,
  ⟨"DEC_IXL", false, 0xFF#8, 0x2D#8, fun _ _ _ _ => some .decIxl⟩,
  ⟨"ADD_IX_pp", true, 0xCF#8, 0x09#8, fun op _ _ _ => some (.addIxPp (PairPp.ofCode (bits54 op)))⟩,
  ⟨"INC_IX", true, 0xFF#8, 0x23#8, fun _ _ _ _ => some .incIx⟩,
  ⟨"DEC_IX", true, 0xFF#8, 0x2B#8, fun _ _ _ _ => some .decIx⟩,
  ⟨"JP__IX", true, 0xFF#8, 0xE9#8, fun _ _ _ _ => some .jpIx⟩]

/-- Space DD: opcode `b1`, not CB (R93). -/
def ddRows : List Row := ddRows1 ++ ddRows2

/-- Space FD: opcode `b1`, not CB (R93), part 1. -/
def fdRows1 : List Row := [
  ⟨"LD_r__IY+d", true, 0xC7#8, 0x46#8, fun op _ b2 _ => do return .ldRIdxIy (← Reg8.ofCode (bits53 op)) b2⟩,
  ⟨"LD__IY+d__r", true, 0xF8#8, 0x70#8, fun op _ b2 _ => do return .ldIdxIyR b2 (← Reg8.ofCode (bits20 op))⟩,
  ⟨"LD__IY+d__n", true, 0xFF#8, 0x36#8, fun _ _ b2 b3 => some (.ldIdxIyN b2 b3)⟩,
  ⟨"LD_p_p___IY", false, 0xC0#8, 0x40#8, fun op _ _ _ => do halfPairIy (← RegQ.ofCode (bits53 op)) (← RegQ.ofCode (bits20 op))⟩,
  ⟨"LD_IYH_n", false, 0xFF#8, 0x26#8, fun _ _ b2 _ => some (.ldIyhN b2)⟩,
  ⟨"LD_IYL_n", false, 0xFF#8, 0x2E#8, fun _ _ b2 _ => some (.ldIylN b2)⟩,
  ⟨"LD_IY_nn", true, 0xFF#8, 0x21#8, fun _ _ b2 b3 => some (.ldIyNn (pair b3 b2))⟩,
  ⟨"LD_IY__nn", true, 0xFF#8, 0x2A#8, fun _ _ b2 b3 => some (.ldIyIndNn (pair b3 b2))⟩,
  ⟨"LD__nn__IY", true, 0xFF#8, 0x22#8, fun _ _ b2 b3 => some (.ldIndNnIy (pair b3 b2))⟩,
  ⟨"LD_SP_IY", true, 0xFF#8, 0xF9#8, fun _ _ _ _ => some .ldSpIy⟩,
  ⟨"PUSH_IY", true, 0xFF#8, 0xE5#8, fun _ _ _ _ => some .pushIy⟩,
  ⟨"POP_IY", true, 0xFF#8, 0xE1#8, fun _ _ _ _ => some .popIy⟩,
  ⟨"EX__SP__IY", true, 0xFF#8, 0xE3#8, fun _ _ _ _ => some .exIndSpIy⟩,
  ⟨"ADD_A__IY+d", true, 0xFF#8, 0x86#8, fun _ _ b2 _ => some (.addAIdxIy b2)⟩,
  ⟨"ADD_A_IYH", false, 0xFF#8, 0x84#8, fun _ _ _ _ => some .addAIyh⟩,
  ⟨"ADD_A_IYL", false, 0xFF#8, 0x85#8, fun _ _ _ _ => some .addAIyl⟩,
  ⟨"ADC_A__IY+d", true, 0xFF#8, 0x8E#8, fun _ _ b2 _ => some (.adcAIdxIy b2)⟩,
  ⟨"ADC_A_IYH", false, 0xFF#8, 0x8C#8, fun _ _ _ _ => some .adcAIyh⟩,
  ⟨"ADC_A_IYL", false, 0xFF#8, 0x8D#8, fun _ _ _ _ => some .adcAIyl⟩,
  ⟨"SUB__IY+d", true, 0xFF#8, 0x96#8, fun _ _ b2 _ => some (.subIdxIy b2)⟩,
  ⟨"SUB_IYH", false, 0xFF#8, 0x94#8, fun _ _ _ _ => some .subIyh⟩,
  ⟨"SUB_IYL", false, 0xFF#8, 0x95#8, fun _ _ _ _ => some .subIyl⟩,
  ⟨"SBC_A__IY+d", true, 0xFF#8, 0x9E#8, fun _ _ b2 _ => some (.sbcAIdxIy b2)⟩,
  ⟨"SBC_A_IYH", false, 0xFF#8, 0x9C#8, fun _ _ _ _ => some .sbcAIyh⟩]

/-- Space FD: opcode `b1`, not CB (R93), part 2. -/
def fdRows2 : List Row := [
  ⟨"SBC_A_IYL", false, 0xFF#8, 0x9D#8, fun _ _ _ _ => some .sbcAIyl⟩,
  ⟨"AND__IY+d", true, 0xFF#8, 0xA6#8, fun _ _ b2 _ => some (.andIdxIy b2)⟩,
  ⟨"AND_IYH", false, 0xFF#8, 0xA4#8, fun _ _ _ _ => some .andIyh⟩,
  ⟨"AND_IYL", false, 0xFF#8, 0xA5#8, fun _ _ _ _ => some .andIyl⟩,
  ⟨"XOR__IY+d", true, 0xFF#8, 0xAE#8, fun _ _ b2 _ => some (.xorIdxIy b2)⟩,
  ⟨"XOR_IYH", false, 0xFF#8, 0xAC#8, fun _ _ _ _ => some .xorIyh⟩,
  ⟨"XOR_IYL", false, 0xFF#8, 0xAD#8, fun _ _ _ _ => some .xorIyl⟩,
  ⟨"OR__IY+d", true, 0xFF#8, 0xB6#8, fun _ _ b2 _ => some (.orIdxIy b2)⟩,
  ⟨"OR_IYH", false, 0xFF#8, 0xB4#8, fun _ _ _ _ => some .orIyh⟩,
  ⟨"OR_IYL", false, 0xFF#8, 0xB5#8, fun _ _ _ _ => some .orIyl⟩,
  ⟨"CP__IY+d", true, 0xFF#8, 0xBE#8, fun _ _ b2 _ => some (.cpIdxIy b2)⟩,
  ⟨"CP_IYH", false, 0xFF#8, 0xBC#8, fun _ _ _ _ => some .cpIyh⟩,
  ⟨"CP_IYL", false, 0xFF#8, 0xBD#8, fun _ _ _ _ => some .cpIyl⟩,
  ⟨"INC__IY+d", true, 0xFF#8, 0x34#8, fun _ _ b2 _ => some (.incIdxIy b2)⟩,
  ⟨"INC_IYH", false, 0xFF#8, 0x24#8, fun _ _ _ _ => some .incIyh⟩,
  ⟨"INC_IYL", false, 0xFF#8, 0x2C#8, fun _ _ _ _ => some .incIyl⟩,
  ⟨"DEC__IY+d", true, 0xFF#8, 0x35#8, fun _ _ b2 _ => some (.decIdxIy b2)⟩,
  ⟨"DEC_IYH", false, 0xFF#8, 0x25#8, fun _ _ _ _ => some .decIyh⟩,
  ⟨"DEC_IYL", false, 0xFF#8, 0x2D#8, fun _ _ _ _ => some .decIyl⟩,
  ⟨"ADD_IY_rr", true, 0xCF#8, 0x09#8, fun op _ _ _ => some (.addIyRr (PairRr.ofCode (bits54 op)))⟩,
  ⟨"INC_IY", true, 0xFF#8, 0x23#8, fun _ _ _ _ => some .incIy⟩,
  ⟨"DEC_IY", true, 0xFF#8, 0x2B#8, fun _ _ _ _ => some .decIy⟩,
  ⟨"JP__IY", true, 0xFF#8, 0xE9#8, fun _ _ _ _ => some .jpIy⟩]

/-- Space FD: opcode `b1`, not CB (R93). -/
def fdRows : List Row := fdRows1 ++ fdRows2

/-- Space DDCB: opcode `b3`, displacement `b2` (R94). -/
def ddcbRows : List Row := [
  ⟨"RLC__IX+d", true, 0xFF#8, 0x06#8, fun _ _ b2 _ => some (.rlcIdxIx b2)⟩,
  ⟨"RLC__IX+d__r", false, 0xF8#8, 0x00#8, fun op _ b2 _ => do return .rlcIdxIxR b2 (← Reg8.ofCode (bits20 op))⟩,
  ⟨"RRC__IX+d", true, 0xFF#8, 0x0E#8, fun _ _ b2 _ => some (.rrcIdxIx b2)⟩,
  ⟨"RRC__IX+d__r", false, 0xF8#8, 0x08#8, fun op _ b2 _ => do return .rrcIdxIxR b2 (← Reg8.ofCode (bits20 op))⟩,
  ⟨"RL__IX+d", true, 0xFF#8, 0x16#8, fun _ _ b2 _ => some (.rlIdxIx b2)⟩,
  ⟨"RL__IX+d__r", false, 0xF8#8, 0x10#8, fun op _ b2 _ => do return .rlIdxIxR b2 (← Reg8.ofCode (bits20 op))⟩,
  ⟨"RR__IX+d", true, 0xFF#8, 0x1E#8, fun _ _ b2 _ => some (.rrIdxIx b2)⟩,
  ⟨"RR__IX+d__r", false, 0xF8#8, 0x18#8, fun op _ b2 _ => do return .rrIdxIxR b2 (← Reg8.ofCode (bits20 op))⟩,
  ⟨"SLA__IX+d", true, 0xFF#8, 0x26#8, fun _ _ b2 _ => some (.slaIdxIx b2)⟩,
  ⟨"SLA__IX+d__r", false, 0xF8#8, 0x20#8, fun op _ b2 _ => do return .slaIdxIxR b2 (← Reg8.ofCode (bits20 op))⟩,
  ⟨"SRA__IX+d", true, 0xFF#8, 0x2E#8, fun _ _ b2 _ => some (.sraIdxIx b2)⟩,
  ⟨"SRA__IX+d__r", false, 0xF8#8, 0x28#8, fun op _ b2 _ => do return .sraIdxIxR b2 (← Reg8.ofCode (bits20 op))⟩,
  ⟨"SLL__IX+d", false, 0xFF#8, 0x36#8, fun _ _ b2 _ => some (.sllIdxIx b2)⟩,
  ⟨"SLL__IX+d__r", false, 0xF8#8, 0x30#8, fun op _ b2 _ => do return .sllIdxIxR b2 (← Reg8.ofCode (bits20 op))⟩,
  ⟨"SRL__IX+d", true, 0xFF#8, 0x3E#8, fun _ _ b2 _ => some (.srlIdxIx b2)⟩,
  ⟨"SRL__IX+d__r", false, 0xF8#8, 0x38#8, fun op _ b2 _ => do return .srlIdxIxR b2 (← Reg8.ofCode (bits20 op))⟩,
  ⟨"BIT_b__IX+d", true, 0xC7#8, 0x46#8, fun op _ b2 _ => some (.bitBIdxIx (bits53 op) b2)⟩,
  ⟨"BIT_b__IX+d___mirror", false, 0xC0#8, 0x40#8, fun op _ b2 _ => do return .bitBIdxIxMirror (bits53 op) b2 (← Reg8.ofCode (bits20 op))⟩,
  ⟨"SET_b__IX+d", true, 0xC7#8, 0xC6#8, fun op _ b2 _ => some (.setBIdxIx (bits53 op) b2)⟩,
  ⟨"SET_b__IX+d__r", false, 0xC0#8, 0xC0#8, fun op _ b2 _ => do return .setBIdxIxR (bits53 op) b2 (← Reg8.ofCode (bits20 op))⟩,
  ⟨"RES_b__IX+d", true, 0xC7#8, 0x86#8, fun op _ b2 _ => some (.resBIdxIx (bits53 op) b2)⟩,
  ⟨"RES_b__IX+d__r", false, 0xC0#8, 0x80#8, fun op _ b2 _ => do return .resBIdxIxR (bits53 op) b2 (← Reg8.ofCode (bits20 op))⟩]

/-- Space FDCB: opcode `b3`, displacement `b2` (R94). -/
def fdcbRows : List Row := [
  ⟨"RLC__IY+d", true, 0xFF#8, 0x06#8, fun _ _ b2 _ => some (.rlcIdxIy b2)⟩,
  ⟨"RLC__IY+d__r", false, 0xF8#8, 0x00#8, fun op _ b2 _ => do return .rlcIdxIyR b2 (← Reg8.ofCode (bits20 op))⟩,
  ⟨"RRC__IY+d", true, 0xFF#8, 0x0E#8, fun _ _ b2 _ => some (.rrcIdxIy b2)⟩,
  ⟨"RRC__IY+d__r", false, 0xF8#8, 0x08#8, fun op _ b2 _ => do return .rrcIdxIyR b2 (← Reg8.ofCode (bits20 op))⟩,
  ⟨"RL__IY+d", true, 0xFF#8, 0x16#8, fun _ _ b2 _ => some (.rlIdxIy b2)⟩,
  ⟨"RL__IY+d__r", false, 0xF8#8, 0x10#8, fun op _ b2 _ => do return .rlIdxIyR b2 (← Reg8.ofCode (bits20 op))⟩,
  ⟨"RR__IY+d", true, 0xFF#8, 0x1E#8, fun _ _ b2 _ => some (.rrIdxIy b2)⟩,
  ⟨"RR__IY+d__r", false, 0xF8#8, 0x18#8, fun op _ b2 _ => do return .rrIdxIyR b2 (← Reg8.ofCode (bits20 op))⟩,
  ⟨"SLA__IY+d", true, 0xFF#8, 0x26#8, fun _ _ b2 _ => some (.slaIdxIy b2)⟩,
  ⟨"SLA__IY+d__r", false, 0xF8#8, 0x20#8, fun op _ b2 _ => do return .slaIdxIyR b2 (← Reg8.ofCode (bits20 op))⟩,
  ⟨"SRA__IY+d", true, 0xFF#8, 0x2E#8, fun _ _ b2 _ => some (.sraIdxIy b2)⟩,
  ⟨"SRA__IY+d__r", false, 0xF8#8, 0x28#8, fun op _ b2 _ => do return .sraIdxIyR b2 (← Reg8.ofCode (bits20 op))⟩,
  ⟨"SLL__IY+d", false, 0xFF#8, 0x36#8, fun _ _ b2 _ => some (.sllIdxIy b2)⟩,
  ⟨"SLL__IY+d__r", false, 0xF8#8, 0x30#8, fun op _ b2 _ => do return .sllIdxIyR b2 (← Reg8.ofCode (bits20 op))⟩,
  ⟨"SRL__IY+d", true, 0xFF#8, 0x3E#8, fun _ _ b2 _ => some (.srlIdxIy b2)⟩,
  ⟨"SRL__IY+d__r", false, 0xF8#8, 0x38#8, fun op _ b2 _ => do return .srlIdxIyR b2 (← Reg8.ofCode (bits20 op))⟩,
  ⟨"BIT_b__IY+d", true, 0xC7#8, 0x46#8, fun op _ b2 _ => some (.bitBIdxIy (bits53 op) b2)⟩,
  ⟨"BIT_b__IY+d___mirror", false, 0xC0#8, 0x40#8, fun op _ b2 _ => do return .bitBIdxIyMirror (bits53 op) b2 (← Reg8.ofCode (bits20 op))⟩,
  ⟨"SET_b__IY+d", true, 0xC7#8, 0xC6#8, fun op _ b2 _ => some (.setBIdxIy (bits53 op) b2)⟩,
  ⟨"SET_b__IY+d__r", false, 0xC0#8, 0xC0#8, fun op _ b2 _ => do return .setBIdxIyR (bits53 op) b2 (← Reg8.ofCode (bits20 op))⟩,
  ⟨"RES_b__IY+d", true, 0xC7#8, 0x86#8, fun op _ b2 _ => some (.resBIdxIy (bits53 op) b2)⟩,
  ⟨"RES_b__IY+d__r", false, 0xC0#8, 0x80#8, fun op _ b2 _ => do return .resBIdxIyR (bits53 op) b2 (← Reg8.ofCode (bits20 op))⟩]

/-- The instruction of the first row that takes the bytes. -/
def pick : List Row → Byte → Byte → Byte → Byte → Option Instr
  | [], _, _, _, _ => none
  | r :: rs, op, b1, b2, b3 =>
    match r.takes op b1 b2 b3 with
    | some i => some i
    | none => pick rs op b1 b2 b3

/-- Why four bytes are no instruction (R95). -/
inductive Reject where
  /-- `ED` followed by an opcode outside the table of R92. -/
  | undefinedEd (op : Byte)
  /-- `DD` followed by an opcode outside the table of R93. -/
  | undefinedDd (op : Byte)
  /-- `FD` followed by an opcode outside the table of R93. -/
  | undefinedFd (op : Byte)
  /-- An opcode of a space in which every opcode is an instruction (R90, R91, R94). -/
  | undefinedOpcode (op : Byte)
  deriving DecidableEq, Repr

/-- The rows of the space the leading bytes select, the opcode byte in it, and the name under which an
opcode outside the rows is rejected (R83). -/
def space (b0 b1 b3 : Byte) : List Row × Byte × Reject :=
  if b0 = 0xCB#8 then (cbRows, b1, .undefinedOpcode b1)
  else if b0 = 0xED#8 then (edRows, b1, .undefinedEd b1)
  else if b0 = 0xDD#8 then
    if b1 = 0xCB#8 then (ddcbRows, b3, .undefinedOpcode b3) else (ddRows, b1, .undefinedDd b1)
  else if b0 = 0xFD#8 then
    if b1 = 0xCB#8 then (fdcbRows, b3, .undefinedOpcode b3) else (fdRows, b1, .undefinedFd b1)
  else (mainRows, b0, .undefinedOpcode b0)

/-- Decoding: total on any four look-ahead bytes, and it reads nothing else (R98). -/
def decode (b0 b1 b2 b3 : Byte) : Except Reject Instr :=
  let (rows, op, rej) := space b0 b1 b3
  match pick rows op b1 b2 b3 with
  | some i => .ok i
  | none => .error rej

/-! ### The encoder -/

/-- The code of a register in selector `r8` (R22). -/
def Reg8.code : Reg8 → Byte
  | .b => 0#8
  | .c => 1#8
  | .d => 2#8
  | .e => 3#8
  | .h => 4#8
  | .l => 5#8
  | .a => 7#8

/-- The code of a register in selector `p8` (R28). -/
def RegP.code : RegP → Byte
  | .b => 0#8
  | .c => 1#8
  | .d => 2#8
  | .e => 3#8
  | .ixh => 4#8
  | .ixl => 5#8
  | .a => 7#8

/-- The code of a register in selector `q8` (R28). -/
def RegQ.code : RegQ → Byte
  | .b => 0#8
  | .c => 1#8
  | .d => 2#8
  | .e => 3#8
  | .iyh => 4#8
  | .iyl => 5#8
  | .a => 7#8

/-- The code of a pair in selector `dd` (R23). -/
def PairDd.code : PairDd → Byte
  | .bc => 0#8
  | .de => 1#8
  | .hl => 2#8
  | .sp => 3#8

/-- The code of a pair in selector `qq` (R24). -/
def PairQq.code : PairQq → Byte
  | .bc => 0#8
  | .de => 1#8
  | .hl => 2#8
  | .af => 3#8

/-- The code of a pair in selector `pp` (R25). -/
def PairPp.code : PairPp → Byte
  | .bc => 0#8
  | .de => 1#8
  | .ix => 2#8
  | .sp => 3#8

/-- The code of a pair in selector `rr` (R26). -/
def PairRr.code : PairRr → Byte
  | .bc => 0#8
  | .de => 1#8
  | .iy => 2#8
  | .sp => 3#8

/-- The code of a condition (R85). -/
def Cond.code : Cond → Byte
  | .nz => 0#8
  | .z => 1#8
  | .nc => 2#8
  | .c => 3#8
  | .po => 4#8
  | .pe => 5#8
  | .p => 6#8
  | .m => 7#8

/-- An opcode byte with a field in bits 5..3 (R84). -/
def at53 (pat field : Byte) : Byte := pat ||| (field <<< 3)

/-- An opcode byte with a field in bits 5..4 (R84). -/
def at54 (pat field : Byte) : Byte := pat ||| (field <<< 4)

/-- An opcode byte with a field in bits 2..0 (R84). -/
def at20 (pat field : Byte) : Byte := pat ||| field

/-- The bytes of an instruction, at ascending addresses (R82). -/
def encode : Instr → List Byte
  | .ldRR r q => [at20 (at53 0x40#8 r.code) q.code]
  | .ldRN r n => [at53 0x06#8 r.code, n]
  | .ldRIndHl r => [at53 0x46#8 r.code]
  | .ldIndHlR r => [at20 0x70#8 r.code]
  | .ldIndHlN n => [0x36#8, n]
  | .ldAIndBc => [0x0A#8]
  | .ldAIndDe => [0x1A#8]
  | .ldAIndNn nn => [0x3A#8, lo nn, hi nn]
  | .ldIndBcA => [0x02#8]
  | .ldIndDeA => [0x12#8]
  | .ldIndNnA nn => [0x32#8, lo nn, hi nn]
  | .ldAI => [0xED#8, 0x57#8]
  | .ldAR => [0xED#8, 0x5F#8]
  | .ldIA => [0xED#8, 0x47#8]
  | .ldRA => [0xED#8, 0x4F#8]
  | .ldDdNn p nn => [at54 0x01#8 p.code, lo nn, hi nn]
  | .ldHlIndNn nn => [0x2A#8, lo nn, hi nn]
  | .ldDdIndNn p nn => [0xED#8, at54 0x4B#8 p.code, lo nn, hi nn]
  | .ldIndNnHl nn => [0x22#8, lo nn, hi nn]
  | .ldIndNnDd nn p => [0xED#8, at54 0x43#8 p.code, lo nn, hi nn]
  | .ldSpHl => [0xF9#8]
  | .pushQq p => [at54 0xC5#8 p.code]
  | .popQq p => [at54 0xC1#8 p.code]
  | .exDeHl => [0xEB#8]
  | .exAfAf => [0x08#8]
  | .exx => [0xD9#8]
  | .exIndSpHl => [0xE3#8]
  | .ldi => [0xED#8, 0xA0#8]
  | .ldir => [0xED#8, 0xB0#8]
  | .ldd => [0xED#8, 0xA8#8]
  | .lddr => [0xED#8, 0xB8#8]
  | .cpi => [0xED#8, 0xA1#8]
  | .cpir => [0xED#8, 0xB1#8]
  | .cpd => [0xED#8, 0xA9#8]
  | .cpdr => [0xED#8, 0xB9#8]
  | .daa => [0x27#8]
  | .cpl => [0x2F#8]
  | .neg => [0xED#8, 0x44#8]
  | .ccf => [0x3F#8]
  | .scf => [0x37#8]
  | .nop => [0x00#8]
  | .halt => [0x76#8]
  | .di => [0xF3#8]
  | .ei => [0xFB#8]
  | .im0 => [0xED#8, 0x46#8]
  | .im1 => [0xED#8, 0x56#8]
  | .im2 => [0xED#8, 0x5E#8]
  | .addAR r => [at20 0x80#8 r.code]
  | .addAN n => [0xC6#8, n]
  | .addAIndHl => [0x86#8]
  | .adcAR r => [at20 0x88#8 r.code]
  | .adcAN n => [0xCE#8, n]
  | .adcAIndHl => [0x8E#8]
  | .subR r => [at20 0x90#8 r.code]
  | .subN n => [0xD6#8, n]
  | .subIndHl => [0x96#8]
  | .sbcAR r => [at20 0x98#8 r.code]
  | .sbcAN n => [0xDE#8, n]
  | .sbcAIndHl => [0x9E#8]
  | .andR r => [at20 0xA0#8 r.code]
  | .andN n => [0xE6#8, n]
  | .andIndHl => [0xA6#8]
  | .xorR r => [at20 0xA8#8 r.code]
  | .xorN n => [0xEE#8, n]
  | .xorIndHl => [0xAE#8]
  | .orR r => [at20 0xB0#8 r.code]
  | .orN n => [0xF6#8, n]
  | .orIndHl => [0xB6#8]
  | .cpR r => [at20 0xB8#8 r.code]
  | .cpN n => [0xFE#8, n]
  | .cpIndHl => [0xBE#8]
  | .incR r => [at53 0x04#8 r.code]
  | .incIndHl => [0x34#8]
  | .decR r => [at53 0x05#8 r.code]
  | .decIndHl => [0x35#8]
  | .addHlSs p => [at54 0x09#8 p.code]
  | .adcHlSs p => [0xED#8, at54 0x4A#8 p.code]
  | .sbcHlSs p => [0xED#8, at54 0x42#8 p.code]
  | .incSs p => [at54 0x03#8 p.code]
  | .decSs p => [at54 0x0B#8 p.code]
  | .rlca => [0x07#8]
  | .rla => [0x17#8]
  | .rrca => [0x0F#8]
  | .rra => [0x1F#8]
  | .rlcR r => [0xCB#8, at20 0x00#8 r.code]
  | .rlcIndHl => [0xCB#8, 0x06#8]
  | .rrcR r => [0xCB#8, at20 0x08#8 r.code]
  | .rrcIndHl => [0xCB#8, 0x0E#8]
  | .rlR r => [0xCB#8, at20 0x10#8 r.code]
  | .rlIndHl => [0xCB#8, 0x16#8]
  | .rrR r => [0xCB#8, at20 0x18#8 r.code]
  | .rrIndHl => [0xCB#8, 0x1E#8]
  | .slaR r => [0xCB#8, at20 0x20#8 r.code]
  | .slaIndHl => [0xCB#8, 0x26#8]
  | .sraR r => [0xCB#8, at20 0x28#8 r.code]
  | .sraIndHl => [0xCB#8, 0x2E#8]
  | .sllR r => [0xCB#8, at20 0x30#8 r.code]
  | .sllIndHl => [0xCB#8, 0x36#8]
  | .srlR r => [0xCB#8, at20 0x38#8 r.code]
  | .srlIndHl => [0xCB#8, 0x3E#8]
  | .rld => [0xED#8, 0x6F#8]
  | .rrd => [0xED#8, 0x67#8]
  | .bitBR b r => [0xCB#8, at20 (at53 0x40#8 (b.zeroExtend 8)) r.code]
  | .bitBIndHl b => [0xCB#8, at53 0x46#8 (b.zeroExtend 8)]
  | .setBR b r => [0xCB#8, at20 (at53 0xC0#8 (b.zeroExtend 8)) r.code]
  | .setBIndHl b => [0xCB#8, at53 0xC6#8 (b.zeroExtend 8)]
  | .resBR b r => [0xCB#8, at20 (at53 0x80#8 (b.zeroExtend 8)) r.code]
  | .resBIndHl b => [0xCB#8, at53 0x86#8 (b.zeroExtend 8)]
  | .jpNn nn => [0xC3#8, lo nn, hi nn]
  | .jpCcNn cc nn => [at53 0xC2#8 cc.code, lo nn, hi nn]
  | .jrE e => [0x18#8, e]
  | .jrCE e => [0x38#8, e]
  | .jrNcE e => [0x30#8, e]
  | .jrZE e => [0x28#8, e]
  | .jrNzE e => [0x20#8, e]
  | .jpHl => [0xE9#8]
  | .djnzE e => [0x10#8, e]
  | .callNn nn => [0xCD#8, lo nn, hi nn]
  | .callCcNn cc nn => [at53 0xC4#8 cc.code, lo nn, hi nn]
  | .ret => [0xC9#8]
  | .retCc cc => [at53 0xC0#8 cc.code]
  | .reti => [0xED#8, 0x4D#8]
  | .retn => [0xED#8, 0x45#8]
  | .rstP t => [at53 0xC7#8 (t.zeroExtend 8)]
  | .inAPortN n => [0xDB#8, n]
  | .inRPortC r => [0xED#8, at53 0x40#8 r.code]
  | .ini => [0xED#8, 0xA2#8]
  | .inir => [0xED#8, 0xB2#8]
  | .ind => [0xED#8, 0xAA#8]
  | .indr => [0xED#8, 0xBA#8]
  | .outPortNA n => [0xD3#8, n]
  | .outPortCR r => [0xED#8, at53 0x41#8 r.code]
  | .outi => [0xED#8, 0xA3#8]
  | .otir => [0xED#8, 0xB3#8]
  | .outd => [0xED#8, 0xAB#8]
  | .otdr => [0xED#8, 0xBB#8]
  | .ldRIdxIx r d => [0xDD#8, at53 0x46#8 r.code, d]
  | .ldIdxIxR d r => [0xDD#8, at20 0x70#8 r.code, d]
  | .ldIdxIxN d n => [0xDD#8, 0x36#8, d, n]
  | .ldPPIx r q => [0xDD#8, at20 (at53 0x40#8 r.code) q.code]
  | .ldIxhN n => [0xDD#8, 0x26#8, n]
  | .ldIxlN n => [0xDD#8, 0x2E#8, n]
  | .ldIxNn nn => [0xDD#8, 0x21#8, lo nn, hi nn]
  | .ldIxIndNn nn => [0xDD#8, 0x2A#8, lo nn, hi nn]
  | .ldIndNnIx nn => [0xDD#8, 0x22#8, lo nn, hi nn]
  | .ldSpIx => [0xDD#8, 0xF9#8]
  | .pushIx => [0xDD#8, 0xE5#8]
  | .popIx => [0xDD#8, 0xE1#8]
  | .exIndSpIx => [0xDD#8, 0xE3#8]
  | .addAIdxIx d => [0xDD#8, 0x86#8, d]
  | .addAIxh => [0xDD#8, 0x84#8]
  | .addAIxl => [0xDD#8, 0x85#8]
  | .adcAIdxIx d => [0xDD#8, 0x8E#8, d]
  | .adcAIxh => [0xDD#8, 0x8C#8]
  | .adcAIxl => [0xDD#8, 0x8D#8]
  | .subIdxIx d => [0xDD#8, 0x96#8, d]
  | .subIxh => [0xDD#8, 0x94#8]
  | .subIxl => [0xDD#8, 0x95#8]
  | .sbcAIdxIx d => [0xDD#8, 0x9E#8, d]
  | .sbcAIxh => [0xDD#8, 0x9C#8]
  | .sbcAIxl => [0xDD#8, 0x9D#8]
  | .andIdxIx d => [0xDD#8, 0xA6#8, d]
  | .andIxh => [0xDD#8, 0xA4#8]
  | .andIxl => [0xDD#8, 0xA5#8]
  | .xorIdxIx d => [0xDD#8, 0xAE#8, d]
  | .xorIxh => [0xDD#8, 0xAC#8]
  | .xorIxl => [0xDD#8, 0xAD#8]
  | .orIdxIx d => [0xDD#8, 0xB6#8, d]
  | .orIxh => [0xDD#8, 0xB4#8]
  | .orIxl => [0xDD#8, 0xB5#8]
  | .cpIdxIx d => [0xDD#8, 0xBE#8, d]
  | .cpIxh => [0xDD#8, 0xBC#8]
  | .cpIxl => [0xDD#8, 0xBD#8]
  | .incIdxIx d => [0xDD#8, 0x34#8, d]
  | .incIxh => [0xDD#8, 0x24#8]
  | .incIxl => [0xDD#8, 0x2C#8]
  | .decIdxIx d => [0xDD#8, 0x35#8, d]
  | .decIxh => [0xDD#8, 0x25#8]
  | .decIxl => [0xDD#8, 0x2D#8]
  | .addIxPp p => [0xDD#8, at54 0x09#8 p.code]
  | .incIx => [0xDD#8, 0x23#8]
  | .decIx => [0xDD#8, 0x2B#8]
  | .rlcIdxIx d => [0xDD#8, 0xCB#8, d, 0x06#8]
  | .rlcIdxIxR d r => [0xDD#8, 0xCB#8, d, at20 0x00#8 r.code]
  | .rrcIdxIx d => [0xDD#8, 0xCB#8, d, 0x0E#8]
  | .rrcIdxIxR d r => [0xDD#8, 0xCB#8, d, at20 0x08#8 r.code]
  | .rlIdxIx d => [0xDD#8, 0xCB#8, d, 0x16#8]
  | .rlIdxIxR d r => [0xDD#8, 0xCB#8, d, at20 0x10#8 r.code]
  | .rrIdxIx d => [0xDD#8, 0xCB#8, d, 0x1E#8]
  | .rrIdxIxR d r => [0xDD#8, 0xCB#8, d, at20 0x18#8 r.code]
  | .slaIdxIx d => [0xDD#8, 0xCB#8, d, 0x26#8]
  | .slaIdxIxR d r => [0xDD#8, 0xCB#8, d, at20 0x20#8 r.code]
  | .sraIdxIx d => [0xDD#8, 0xCB#8, d, 0x2E#8]
  | .sraIdxIxR d r => [0xDD#8, 0xCB#8, d, at20 0x28#8 r.code]
  | .sllIdxIx d => [0xDD#8, 0xCB#8, d, 0x36#8]
  | .sllIdxIxR d r => [0xDD#8, 0xCB#8, d, at20 0x30#8 r.code]
  | .srlIdxIx d => [0xDD#8, 0xCB#8, d, 0x3E#8]
  | .srlIdxIxR d r => [0xDD#8, 0xCB#8, d, at20 0x38#8 r.code]
  | .bitBIdxIx b d => [0xDD#8, 0xCB#8, d, at53 0x46#8 (b.zeroExtend 8)]
  | .bitBIdxIxMirror b d r => [0xDD#8, 0xCB#8, d, at20 (at53 0x40#8 (b.zeroExtend 8)) r.code]
  | .setBIdxIx b d => [0xDD#8, 0xCB#8, d, at53 0xC6#8 (b.zeroExtend 8)]
  | .setBIdxIxR b d r => [0xDD#8, 0xCB#8, d, at20 (at53 0xC0#8 (b.zeroExtend 8)) r.code]
  | .resBIdxIx b d => [0xDD#8, 0xCB#8, d, at53 0x86#8 (b.zeroExtend 8)]
  | .resBIdxIxR b d r => [0xDD#8, 0xCB#8, d, at20 (at53 0x80#8 (b.zeroExtend 8)) r.code]
  | .jpIx => [0xDD#8, 0xE9#8]
  | .ldRIdxIy r d => [0xFD#8, at53 0x46#8 r.code, d]
  | .ldIdxIyR d r => [0xFD#8, at20 0x70#8 r.code, d]
  | .ldIdxIyN d n => [0xFD#8, 0x36#8, d, n]
  | .ldPPIy r q => [0xFD#8, at20 (at53 0x40#8 r.code) q.code]
  | .ldIyhN n => [0xFD#8, 0x26#8, n]
  | .ldIylN n => [0xFD#8, 0x2E#8, n]
  | .ldIyNn nn => [0xFD#8, 0x21#8, lo nn, hi nn]
  | .ldIyIndNn nn => [0xFD#8, 0x2A#8, lo nn, hi nn]
  | .ldIndNnIy nn => [0xFD#8, 0x22#8, lo nn, hi nn]
  | .ldSpIy => [0xFD#8, 0xF9#8]
  | .pushIy => [0xFD#8, 0xE5#8]
  | .popIy => [0xFD#8, 0xE1#8]
  | .exIndSpIy => [0xFD#8, 0xE3#8]
  | .addAIdxIy d => [0xFD#8, 0x86#8, d]
  | .addAIyh => [0xFD#8, 0x84#8]
  | .addAIyl => [0xFD#8, 0x85#8]
  | .adcAIdxIy d => [0xFD#8, 0x8E#8, d]
  | .adcAIyh => [0xFD#8, 0x8C#8]
  | .adcAIyl => [0xFD#8, 0x8D#8]
  | .subIdxIy d => [0xFD#8, 0x96#8, d]
  | .subIyh => [0xFD#8, 0x94#8]
  | .subIyl => [0xFD#8, 0x95#8]
  | .sbcAIdxIy d => [0xFD#8, 0x9E#8, d]
  | .sbcAIyh => [0xFD#8, 0x9C#8]
  | .sbcAIyl => [0xFD#8, 0x9D#8]
  | .andIdxIy d => [0xFD#8, 0xA6#8, d]
  | .andIyh => [0xFD#8, 0xA4#8]
  | .andIyl => [0xFD#8, 0xA5#8]
  | .xorIdxIy d => [0xFD#8, 0xAE#8, d]
  | .xorIyh => [0xFD#8, 0xAC#8]
  | .xorIyl => [0xFD#8, 0xAD#8]
  | .orIdxIy d => [0xFD#8, 0xB6#8, d]
  | .orIyh => [0xFD#8, 0xB4#8]
  | .orIyl => [0xFD#8, 0xB5#8]
  | .cpIdxIy d => [0xFD#8, 0xBE#8, d]
  | .cpIyh => [0xFD#8, 0xBC#8]
  | .cpIyl => [0xFD#8, 0xBD#8]
  | .incIdxIy d => [0xFD#8, 0x34#8, d]
  | .incIyh => [0xFD#8, 0x24#8]
  | .incIyl => [0xFD#8, 0x2C#8]
  | .decIdxIy d => [0xFD#8, 0x35#8, d]
  | .decIyh => [0xFD#8, 0x25#8]
  | .decIyl => [0xFD#8, 0x2D#8]
  | .addIyRr p => [0xFD#8, at54 0x09#8 p.code]
  | .incIy => [0xFD#8, 0x23#8]
  | .decIy => [0xFD#8, 0x2B#8]
  | .rlcIdxIy d => [0xFD#8, 0xCB#8, d, 0x06#8]
  | .rlcIdxIyR d r => [0xFD#8, 0xCB#8, d, at20 0x00#8 r.code]
  | .rrcIdxIy d => [0xFD#8, 0xCB#8, d, 0x0E#8]
  | .rrcIdxIyR d r => [0xFD#8, 0xCB#8, d, at20 0x08#8 r.code]
  | .rlIdxIy d => [0xFD#8, 0xCB#8, d, 0x16#8]
  | .rlIdxIyR d r => [0xFD#8, 0xCB#8, d, at20 0x10#8 r.code]
  | .rrIdxIy d => [0xFD#8, 0xCB#8, d, 0x1E#8]
  | .rrIdxIyR d r => [0xFD#8, 0xCB#8, d, at20 0x18#8 r.code]
  | .slaIdxIy d => [0xFD#8, 0xCB#8, d, 0x26#8]
  | .slaIdxIyR d r => [0xFD#8, 0xCB#8, d, at20 0x20#8 r.code]
  | .sraIdxIy d => [0xFD#8, 0xCB#8, d, 0x2E#8]
  | .sraIdxIyR d r => [0xFD#8, 0xCB#8, d, at20 0x28#8 r.code]
  | .sllIdxIy d => [0xFD#8, 0xCB#8, d, 0x36#8]
  | .sllIdxIyR d r => [0xFD#8, 0xCB#8, d, at20 0x30#8 r.code]
  | .srlIdxIy d => [0xFD#8, 0xCB#8, d, 0x3E#8]
  | .srlIdxIyR d r => [0xFD#8, 0xCB#8, d, at20 0x38#8 r.code]
  | .bitBIdxIy b d => [0xFD#8, 0xCB#8, d, at53 0x46#8 (b.zeroExtend 8)]
  | .bitBIdxIyMirror b d r => [0xFD#8, 0xCB#8, d, at20 (at53 0x40#8 (b.zeroExtend 8)) r.code]
  | .setBIdxIy b d => [0xFD#8, 0xCB#8, d, at53 0xC6#8 (b.zeroExtend 8)]
  | .setBIdxIyR b d r => [0xFD#8, 0xCB#8, d, at20 (at53 0xC0#8 (b.zeroExtend 8)) r.code]
  | .resBIdxIy b d => [0xFD#8, 0xCB#8, d, at53 0x86#8 (b.zeroExtend 8)]
  | .resBIdxIyR b d r => [0xFD#8, 0xCB#8, d, at20 (at53 0x80#8 (b.zeroExtend 8)) r.code]
  | .jpIy => [0xFD#8, 0xE9#8]

/-- The length of an instruction in bytes (R80). -/
def Instr.length (i : Instr) : Nat := (encode i).length

/-- The group of an instruction (R81). -/
def Instr.group : Instr → Group
  | .ldRR _ _ => .load8
  | .ldRN _ _ => .load8
  | .ldRIndHl _ => .load8
  | .ldIndHlR _ => .load8
  | .ldIndHlN _ => .load8
  | .ldAIndBc => .load8
  | .ldAIndDe => .load8
  | .ldAIndNn _ => .load8
  | .ldIndBcA => .load8
  | .ldIndDeA => .load8
  | .ldIndNnA _ => .load8
  | .ldAI => .load8
  | .ldAR => .load8
  | .ldIA => .load8
  | .ldRA => .load8
  | .ldDdNn _ _ => .load16
  | .ldHlIndNn _ => .load16
  | .ldDdIndNn _ _ => .load16
  | .ldIndNnHl _ => .load16
  | .ldIndNnDd _ _ => .load16
  | .ldSpHl => .load16
  | .pushQq _ => .load16
  | .popQq _ => .load16
  | .exDeHl => .exchangeBlock
  | .exAfAf => .exchangeBlock
  | .exx => .exchangeBlock
  | .exIndSpHl => .exchangeBlock
  | .ldi => .exchangeBlock
  | .ldir => .exchangeBlock
  | .ldd => .exchangeBlock
  | .lddr => .exchangeBlock
  | .cpi => .exchangeBlock
  | .cpir => .exchangeBlock
  | .cpd => .exchangeBlock
  | .cpdr => .exchangeBlock
  | .daa => .generalMisc
  | .cpl => .generalMisc
  | .neg => .generalMisc
  | .ccf => .generalMisc
  | .scf => .generalMisc
  | .nop => .generalMisc
  | .halt => .generalMisc
  | .di => .generalMisc
  | .ei => .generalMisc
  | .im0 => .generalMisc
  | .im1 => .generalMisc
  | .im2 => .generalMisc
  | .addAR _ => .arith8
  | .addAN _ => .arith8
  | .addAIndHl => .arith8
  | .adcAR _ => .arith8
  | .adcAN _ => .arith8
  | .adcAIndHl => .arith8
  | .subR _ => .arith8
  | .subN _ => .arith8
  | .subIndHl => .arith8
  | .sbcAR _ => .arith8
  | .sbcAN _ => .arith8
  | .sbcAIndHl => .arith8
  | .andR _ => .arith8
  | .andN _ => .arith8
  | .andIndHl => .arith8
  | .xorR _ => .arith8
  | .xorN _ => .arith8
  | .xorIndHl => .arith8
  | .orR _ => .arith8
  | .orN _ => .arith8
  | .orIndHl => .arith8
  | .cpR _ => .arith8
  | .cpN _ => .arith8
  | .cpIndHl => .arith8
  | .incR _ => .arith8
  | .incIndHl => .arith8
  | .decR _ => .arith8
  | .decIndHl => .arith8
  | .addHlSs _ => .arith16
  | .adcHlSs _ => .arith16
  | .sbcHlSs _ => .arith16
  | .incSs _ => .arith16
  | .decSs _ => .arith16
  | .rlca => .rotateShift
  | .rla => .rotateShift
  | .rrca => .rotateShift
  | .rra => .rotateShift
  | .rlcR _ => .rotateShift
  | .rlcIndHl => .rotateShift
  | .rrcR _ => .rotateShift
  | .rrcIndHl => .rotateShift
  | .rlR _ => .rotateShift
  | .rlIndHl => .rotateShift
  | .rrR _ => .rotateShift
  | .rrIndHl => .rotateShift
  | .slaR _ => .rotateShift
  | .slaIndHl => .rotateShift
  | .sraR _ => .rotateShift
  | .sraIndHl => .rotateShift
  | .sllR _ => .rotateShift
  | .sllIndHl => .rotateShift
  | .srlR _ => .rotateShift
  | .srlIndHl => .rotateShift
  | .rld => .rotateShift
  | .rrd => .rotateShift
  | .bitBR _ _ => .bit
  | .bitBIndHl _ => .bit
  | .setBR _ _ => .bit
  | .setBIndHl _ => .bit
  | .resBR _ _ => .bit
  | .resBIndHl _ => .bit
  | .jpNn _ => .jump
  | .jpCcNn _ _ => .jump
  | .jrE _ => .jump
  | .jrCE _ => .jump
  | .jrNcE _ => .jump
  | .jrZE _ => .jump
  | .jrNzE _ => .jump
  | .jpHl => .jump
  | .djnzE _ => .jump
  | .callNn _ => .callReturn
  | .callCcNn _ _ => .callReturn
  | .ret => .callReturn
  | .retCc _ => .callReturn
  | .reti => .callReturn
  | .retn => .callReturn
  | .rstP _ => .callReturn
  | .inAPortN _ => .inputOutput
  | .inRPortC _ => .inputOutput
  | .ini => .inputOutput
  | .inir => .inputOutput
  | .ind => .inputOutput
  | .indr => .inputOutput
  | .outPortNA _ => .inputOutput
  | .outPortCR _ => .inputOutput
  | .outi => .inputOutput
  | .otir => .inputOutput
  | .outd => .inputOutput
  | .otdr => .inputOutput
  | .ldRIdxIx _ _ => .load8
  | .ldIdxIxR _ _ => .load8
  | .ldIdxIxN _ _ => .load8
  | .ldPPIx _ _ => .load8
  | .ldIxhN _ => .load8
  | .ldIxlN _ => .load8
  | .ldIxNn _ => .load16
  | .ldIxIndNn _ => .load16
  | .ldIndNnIx _ => .load16
  | .ldSpIx => .load16
  | .pushIx => .load16
  | .popIx => .load16
  | .exIndSpIx => .exchangeBlock
  | .addAIdxIx _ => .arith8
  | .addAIxh => .arith8
  | .addAIxl => .arith8
  | .adcAIdxIx _ => .arith8
  | .adcAIxh => .arith8
  | .adcAIxl => .arith8
  | .subIdxIx _ => .arith8
  | .subIxh => .arith8
  | .subIxl => .arith8
  | .sbcAIdxIx _ => .arith8
  | .sbcAIxh => .arith8
  | .sbcAIxl => .arith8
  | .andIdxIx _ => .arith8
  | .andIxh => .arith8
  | .andIxl => .arith8
  | .xorIdxIx _ => .arith8
  | .xorIxh => .arith8
  | .xorIxl => .arith8
  | .orIdxIx _ => .arith8
  | .orIxh => .arith8
  | .orIxl => .arith8
  | .cpIdxIx _ => .arith8
  | .cpIxh => .arith8
  | .cpIxl => .arith8
  | .incIdxIx _ => .arith8
  | .incIxh => .arith8
  | .incIxl => .arith8
  | .decIdxIx _ => .arith8
  | .decIxh => .arith8
  | .decIxl => .arith8
  | .addIxPp _ => .arith16
  | .incIx => .arith16
  | .decIx => .arith16
  | .rlcIdxIx _ => .rotateShift
  | .rlcIdxIxR _ _ => .rotateShift
  | .rrcIdxIx _ => .rotateShift
  | .rrcIdxIxR _ _ => .rotateShift
  | .rlIdxIx _ => .rotateShift
  | .rlIdxIxR _ _ => .rotateShift
  | .rrIdxIx _ => .rotateShift
  | .rrIdxIxR _ _ => .rotateShift
  | .slaIdxIx _ => .rotateShift
  | .slaIdxIxR _ _ => .rotateShift
  | .sraIdxIx _ => .rotateShift
  | .sraIdxIxR _ _ => .rotateShift
  | .sllIdxIx _ => .rotateShift
  | .sllIdxIxR _ _ => .rotateShift
  | .srlIdxIx _ => .rotateShift
  | .srlIdxIxR _ _ => .rotateShift
  | .bitBIdxIx _ _ => .bit
  | .bitBIdxIxMirror _ _ _ => .bit
  | .setBIdxIx _ _ => .bit
  | .setBIdxIxR _ _ _ => .bit
  | .resBIdxIx _ _ => .bit
  | .resBIdxIxR _ _ _ => .bit
  | .jpIx => .jump
  | .ldRIdxIy _ _ => .load8
  | .ldIdxIyR _ _ => .load8
  | .ldIdxIyN _ _ => .load8
  | .ldPPIy _ _ => .load8
  | .ldIyhN _ => .load8
  | .ldIylN _ => .load8
  | .ldIyNn _ => .load16
  | .ldIyIndNn _ => .load16
  | .ldIndNnIy _ => .load16
  | .ldSpIy => .load16
  | .pushIy => .load16
  | .popIy => .load16
  | .exIndSpIy => .exchangeBlock
  | .addAIdxIy _ => .arith8
  | .addAIyh => .arith8
  | .addAIyl => .arith8
  | .adcAIdxIy _ => .arith8
  | .adcAIyh => .arith8
  | .adcAIyl => .arith8
  | .subIdxIy _ => .arith8
  | .subIyh => .arith8
  | .subIyl => .arith8
  | .sbcAIdxIy _ => .arith8
  | .sbcAIyh => .arith8
  | .sbcAIyl => .arith8
  | .andIdxIy _ => .arith8
  | .andIyh => .arith8
  | .andIyl => .arith8
  | .xorIdxIy _ => .arith8
  | .xorIyh => .arith8
  | .xorIyl => .arith8
  | .orIdxIy _ => .arith8
  | .orIyh => .arith8
  | .orIyl => .arith8
  | .cpIdxIy _ => .arith8
  | .cpIyh => .arith8
  | .cpIyl => .arith8
  | .incIdxIy _ => .arith8
  | .incIyh => .arith8
  | .incIyl => .arith8
  | .decIdxIy _ => .arith8
  | .decIyh => .arith8
  | .decIyl => .arith8
  | .addIyRr _ => .arith16
  | .incIy => .arith16
  | .decIy => .arith16
  | .rlcIdxIy _ => .rotateShift
  | .rlcIdxIyR _ _ => .rotateShift
  | .rrcIdxIy _ => .rotateShift
  | .rrcIdxIyR _ _ => .rotateShift
  | .rlIdxIy _ => .rotateShift
  | .rlIdxIyR _ _ => .rotateShift
  | .rrIdxIy _ => .rotateShift
  | .rrIdxIyR _ _ => .rotateShift
  | .slaIdxIy _ => .rotateShift
  | .slaIdxIyR _ _ => .rotateShift
  | .sraIdxIy _ => .rotateShift
  | .sraIdxIyR _ _ => .rotateShift
  | .sllIdxIy _ => .rotateShift
  | .sllIdxIyR _ _ => .rotateShift
  | .srlIdxIy _ => .rotateShift
  | .srlIdxIyR _ _ => .rotateShift
  | .bitBIdxIy _ _ => .bit
  | .bitBIdxIyMirror _ _ _ => .bit
  | .setBIdxIy _ _ => .bit
  | .setBIdxIyR _ _ _ => .bit
  | .resBIdxIy _ _ => .bit
  | .resBIdxIyR _ _ _ => .bit
  | .jpIy => .jump

/-- Decode the first four bytes of a list; missing bytes count as zero. -/
def decodeBytes (bs : List Byte) : Except Reject Instr :=
  decode (bs.getD 0 0#8) (bs.getD 1 0#8) (bs.getD 2 0#8) (bs.getD 3 0#8)

/-! ### The opcode table's numbering of an instruction's bits (log 13) -/

/-- Byte `k` of a row of `nbits` bits whose bits are numbered as the table's `match` and `fixed` number
them: the first byte is the most significant. -/
def tableByteHigh (nbits w k : Nat) : Byte :=
  let n := (nbits + 7) / 8
  if k < n then BitVec.ofNat 8 (w / 256 ^ (n - 1 - k)) else 0#8

/-- Byte `k` where bit 0 is the least significant bit of the first byte instead. -/
def tableByteLow (nbits w k : Nat) : Byte :=
  if k < (nbits + 7) / 8 then BitVec.ofNat 8 (w / 256 ^ k) else 0#8

/-- Four bytes as a list. -/
def fourBytes (f : Nat → Byte) : List Byte := [f 0, f 1, f 2, f 3]

/-- Do the bytes decode to an instruction that fills exactly the row? -/
def fillsRow (nbits : Nat) (bs : List Byte) : Bool :=
  match decodeBytes bs with
  | .ok i => i.length == (nbits + 7) / 8
  | .error _ => false

/-- The bytes, as memory holds them, of an instruction whose bits the table numbers as `w`: the table
numbers the first byte highest. The other numbering is taken where it alone gives an instruction of the
row's length, and where it gives one of the CB space (log 13). -/
def tableBytes (nbits w : Nat) : List Byte :=
  let high := fourBytes (tableByteHigh nbits w)
  let low := fourBytes (tableByteLow nbits w)
  if (!fillsRow nbits high || tableByteLow nbits w 0 == 0xCB#8) && fillsRow nbits low then low else high

/-- The instruction the decoder reads from an instruction's bits in the table's numbering. -/
def decodeTableWord (nbits w : Nat) : Option Instr :=
  match decodeBytes (tableBytes nbits w) with
  | .ok i => some i
  | .error _ => none

end Sys2Proof
end

