-- ==== Sys2Proof/Machine/Fetch.lean ====
section
/-! DEFINITION. What a step does before the instruction's own rule: the EI-delay update (R342), the look-ahead (R60), the advance of R (R31); and placing an instruction where the next step fetches. -/

namespace Sys2Proof.Machine

namespace State

/-- The EI-delay update, the first action of every step (R342). -/
def eiUpdate (s : State) : State :=
  match s.eiSt with
  | .none => s
  | .waiting => { s with eiSt := .satisfied }
  | .satisfied => { s with eiSt := .none, iff1 := true, iff2 := true }

/-- The four look-ahead bytes at PC, addresses modulo 2^16 (R60). -/
def fetched (s : State) : Byte × Byte × Byte × Byte :=
  (s.peek s.pc, s.peek (s.pc + 1), s.peek (s.pc + 2), s.peek (s.pc + 3))

/-- The four look-ahead reads, in ascending order (R60). -/
def lookAhead (s : State) : (Byte × Byte × Byte × Byte) × State :=
  let (b0, s1) := s.memRead s.pc
  let (b1, s2) := s1.memRead (s.pc + 1)
  let (b2, s3) := s2.memRead (s.pc + 2)
  let (b3, s4) := s3.memRead (s.pc + 3)
  ((b0, b1, b2, b3), s4)

end State

/-- Does this first byte lead into a prefixed space (R31, R83)? -/
def isPrefix (b0 : Byte) : Bool := b0 == 0xCB#8 || b0 == 0xED#8 || b0 == 0xDD#8 || b0 == 0xFD#8

/-- By how much R advances: `inc` of R31. -/
def rIncrement (p : RPolicy) (len : Nat) (b0 : Byte) : Nat :=
  match p with
  | .byteLength => len
  | .m1Count => if isPrefix b0 then 2 else 1

/-- `R[7] : ((R[6:0] + inc) mod 128)` (R31). -/
def advance (r : Byte) (inc : Nat) : Byte := r.extractLsb' 7 1 ++ (r.extractLsb' 0 7 + BitVec.ofNat 7 inc)

namespace State

/-- The advance of R in a step that decodes an instruction (R31). -/
def advanceR (s : State) (len : Nat) (b0 : Byte) : State :=
  { s with r := advance s.r (rIncrement s.cfg.rPolicy len b0) }

/-- Memory with a list of bytes stored at ascending addresses from `a`, by no access of the engine. -/
def place (s : State) (a : Word) : List Byte → State
  | [] => s
  | b :: bs => place { s with mem := s.mem.write a.toNat b } (a + 1) bs

end State

end Sys2Proof.Machine
end

