-- ==== Sys2Proof/Machine/Driver.lean ====
section
/-! DEFINITION. The step driver: one call of `step()` (R341, R343). -/

namespace Sys2Proof.Machine

/-- `step()` (R341): the EI-delay update, the four look-ahead reads, decoding, the advance of R, the
instruction's rule. Where no row matches it faults, and nothing below decoding happens (R343). -/
def engineStep (s : State) : Result :=
  let ((b0, b1, b2, b3), s1) := s.eiUpdate.lookAhead
  match decode b0 b1 b2 b3 with
  | .ok i => exec i (s1.advanceR i.length b0)
  | .error _ => .fault (.decodeFault s1.pc b0 b1 b2 b3 s1)

end Sys2Proof.Machine
end

