-- ==== Sys2Proof/Machine/Step.lean ====
section
/-! DEFINITION. One step: the environment's signal calls of the gap before it (R352), then `step()` (R341); and placing the next instruction. -/

namespace Sys2Proof.Machine

/-- One step of the machine: the signal calls the environment makes in the gap before it, then the
engine's `step()`. -/
def step (s : State) : Result := engineStep s.deliver

/-- The state with an instruction stored where the next step fetches (log 13). The gap before that step
makes no signal call, so that it fetches exactly there. -/
def State.withFetchWord (s : State) (nbits w : Nat) : State :=
  { s.place s.pc (tableBytes nbits w) with signals := [] :: s.signals.tail }

end Sys2Proof.Machine
end

