-- ==== Sys2Proof/Safety.lean ====
section
/-! DEFINITION. What a safe run is, and the invariant of the machine, in the terms the claims use. -/

namespace Sys2Proof.Machine

/-- The four look-ahead bytes at PC are an instruction (R95): no decode fault is ahead. -/
def State.Decodes (s : State) : Prop :=
  ∃ i, decode (s.peek s.pc) (s.peek (s.pc + 1)) (s.peek (s.pc + 2)) (s.peek (s.pc + 3)) = .ok i

/-- A safe step: `step()` reports no fault (R340). -/
def State.SafeStep (s : State) : Prop := ∃ t, step s = .next t

/-- A safe run of `n` steps. -/
def State.SafeRun (n : Nat) (s : State) : Prop :=
  match n with
  | 0 => True
  | n + 1 => ∃ t, step s = .next t ∧ t.SafeRun n

/-- The invariant every step keeps. -/
structure State.Inv (s : State) : Prop where
  /-- Memory is in its canonical form. -/
  memory : s.mem.wf
  /-- IFF1 is never set without IFF2: each writer of IFF1 clears it or sets it from or with IFF2
  (R20, R342, R346, R348, R306). -/
  enables : s.iff1 = true → s.iff2 = true
  /-- A waiting engine stands on a HALT byte: PC stays at it until a signal arrives (R29, R217, R341). -/
  halted : s.haltSt = .waiting → s.peek s.pc = 0x76#8

end Sys2Proof.Machine
end

