-- ==== Sys2Proof/WellFormed.lean ====
section
/-! DEFINITION. Which instructions have an encoding: every constructor and operand, but for `LD p,p'`, where at least one operand is an index half (R159). -/

namespace Sys2Proof

/-- The instruction has an encoding. The field types already shut out the register code 110. Of the rest
the opcode table excludes one thing: `LD p,p'` with no index half among its operands (R159). -/
def Instr.wellFormed : Instr → Bool
  | .ldPPIx r q => r.isHalf || q.isHalf
  | .ldPPIy r q => r.isHalf || q.isHalf
  | _ => true

/-- `wellFormed` as a proposition. -/
abbrev Instr.WellFormed (i : Instr) : Prop := i.wellFormed = true

end Sys2Proof
end

