-- ==== Sys2Proof/Certificates/Slice0/Obligations.lean ====
section
/-! DEFINITION. The statements for the provers: what each instruction, a step and an interrupt entry do, written from the numbered rules of spec/. -/

namespace Sys2Proof.Machine.Claim

/-- `s` past an instruction of `len` bytes that took `time` and issued these accesses, in this order.
Nothing else is changed. -/
def past (s : State) (len time : Nat) (acc : List BusAccess) : State :=
  { s with pc := s.pc + BitVec.ofNat 16 len, returned := time, bus := acc.reverse ++ s.bus }

/-- As `past`, where the instruction drew one free value for undefined flag bits (R127). -/
def pastDrawn (s : State) (len time : Nat) (acc : List BusAccess) : State :=
  { past s len time acc with anyIn := s.anyIn.tail, draws := s.draws + 1 }

/-- The six meaningful flags agree (R16); bits 5 and 3 are not compared (R127). -/
def six (f g : Flags) : Prop :=
  f.s = g.s ∧ f.z = g.z ∧ f.h = g.h ∧ f.pv = g.pv ∧ f.n = g.n ∧ f.c = g.c

/-- `i` is written as these bytes, and from `s` it completes in exactly the state `t`. -/
def exact (i : Instr) (bytes : List Byte) (s t : State) : Prop := encode i = bytes ∧ exec i s = .next t

/-- `i` is written as these bytes, and from `s` it completes in `t`, its six flags those of `g`, and
bits 5 and 3 of F anything. -/
def flagged (i : Instr) (bytes : List Byte) (s : State) (g : Flags) (t : State) : Prop :=
  encode i = bytes ∧ ∃ u, exec i s = .next u ∧ six u.main.f g ∧
    u = { t with main := { t.main with f := u.main.f } }

/-- `i` is written as these bytes, and from `s` it completes in `t` but for memory, where it stores `v`
at `a`: every other byte reads as before. -/
def stored (i : Instr) (bytes : List Byte) (s t : State) (a : Word) (v : Byte) : Prop :=
  encode i = bytes ∧ ∃ u, exec i s = .next u ∧ u.peek a = v ∧ (∀ x, x ≠ a → u.peek x = s.peek x) ∧
    u = { t with mem := u.mem }

/-- As `stored`, for a word: `hi v` at `a + 1`, `lo v` at `a`. -/
def stored16 (i : Instr) (bytes : List Byte) (s t : State) (a v : Word) : Prop :=
  encode i = bytes ∧ ∃ u, exec i s = .next u ∧ u.peek a = lo v ∧ u.peek (a + 1) = hi v ∧
    (∀ x, x ≠ a → x ≠ a + 1 → u.peek x = s.peek x) ∧ u = { t with mem := u.mem }

/-- As `stored`, and the six flags are those of `g`. -/
def flaggedStored (i : Instr) (bytes : List Byte) (s : State) (g : Flags) (t : State) (a : Word)
    (v : Byte) : Prop :=
  encode i = bytes ∧ ∃ u, exec i s = .next u ∧ six u.main.f g ∧ u.peek a = v ∧
    (∀ x, x ≠ a → u.peek x = s.peek x) ∧
    u = { t with main := { t.main with f := u.main.f }, mem := u.mem }

/-- A read of memory at `a`, with what it answers. -/
def readOf (s : State) (a : Word) : BusAccess := .memRead a (s.peek a)

/-- The word memory holds at `a`: the low byte at the lower address (R53). -/
def word (s : State) (a : Word) : Word := pair (s.peek (a + 1)) (s.peek a)

/-- The two reads of a word, the low byte first (R53). -/
def readsWord (s : State) (a : Word) : List BusAccess :=
  [readOf s a, readOf s (a + 1)]

/-- The two writes of a push: the high byte first (R69). -/
def pushes (s : State) (v : Word) : List BusAccess :=
  [.memWrite (s.sp - 1) (hi v), .memWrite (s.sp - 2) (lo v)]

/-- The state `exec` leaves after `n` executions in a row of the same instruction. -/
def again (i : Instr) : Nat → State → Result
  | 0, s => .next s
  | n + 1, s =>
    match exec i s with
    | .next t => again i n t
    | .fault f => .fault f
    | .refused r => .refused r

/-- Memory after a trace of accesses, newest first, from the contents `m`. -/
def replay : List BusAccess → Memory → Memory
  | [], m => m
  | .memWrite a v :: es, m => (replay es m).write a.toNat v
  | .memRead _ _ :: es, m => replay es m
  | .portRead _ _ :: es, m => replay es m
  | .portWrite _ _ :: es, m => replay es m

/-- Each read of a trace, newest first, answered what memory held at that moment. -/
def honest : List BusAccess → Memory → Prop
  | [], _ => True
  | .memRead a v :: es, m => v = (replay es m).read a.toNat ∧ honest es m
  | .memWrite _ _ :: es, m => honest es m
  | .portRead _ _ :: es, m => honest es m
  | .portWrite _ _ :: es, m => honest es m

/-- A memory access, not a port access. -/
def onMemory : BusAccess → Prop
  | .memRead _ _ => True
  | .memWrite _ _ => True
  | .portRead _ _ => False
  | .portWrite _ _ => False

/-- The block instructions that repeat (R356). -/
def repeats : Instr → Prop
  | i => i = .ldir ∨ i = .lddr ∨ i = .cpir ∨ i = .cpdr ∨ i = .inir ∨ i = .indr ∨ i = .otir ∨ i = .otdr

/-- The opcodes after `ED` that are no instruction: the list of R95. -/
def edFaults (op : Byte) : Prop :=
  op ≤ 0x3F#8 ∨ op = 0x4C#8 ∨ op = 0x4E#8 ∨ (0x54#8 ≤ op ∧ op ≤ 0x55#8) ∨ (0x5C#8 ≤ op ∧ op ≤ 0x5D#8) ∨
    (0x64#8 ≤ op ∧ op ≤ 0x66#8) ∨ (0x6C#8 ≤ op ∧ op ≤ 0x6E#8) ∨ (0x70#8 ≤ op ∧ op ≤ 0x71#8) ∨
    (0x74#8 ≤ op ∧ op ≤ 0x77#8) ∨ (0x7C#8 ≤ op ∧ op ≤ 0x9F#8) ∨ (0xA4#8 ≤ op ∧ op ≤ 0xA7#8) ∨
    (0xAC#8 ≤ op ∧ op ≤ 0xAF#8) ∨ (0xB4#8 ≤ op ∧ op ≤ 0xB7#8) ∨ 0xBC#8 ≤ op

/-- The opcodes after `DD` or `FD` that are no instruction: the list of R95. -/
def indexFaults (op : Byte) : Prop :=
  op ≤ 0x08#8 ∨ (0x0A#8 ≤ op ∧ op ≤ 0x18#8) ∨ (0x1A#8 ≤ op ∧ op ≤ 0x20#8) ∨
    (0x27#8 ≤ op ∧ op ≤ 0x28#8) ∨ (0x2F#8 ≤ op ∧ op ≤ 0x33#8) ∨ (0x37#8 ≤ op ∧ op ≤ 0x38#8) ∨
    (0x3A#8 ≤ op ∧ op ≤ 0x43#8) ∨ (0x47#8 ≤ op ∧ op ≤ 0x4B#8) ∨ (0x4F#8 ≤ op ∧ op ≤ 0x53#8) ∨
    (0x57#8 ≤ op ∧ op ≤ 0x5B#8) ∨ op = 0x5F#8 ∨ op = 0x76#8 ∨ (0x78#8 ≤ op ∧ op ≤ 0x7B#8) ∨
    (0x7F#8 ≤ op ∧ op ≤ 0x83#8) ∨ (0x87#8 ≤ op ∧ op ≤ 0x8B#8) ∨ (0x8F#8 ≤ op ∧ op ≤ 0x93#8) ∨
    (0x97#8 ≤ op ∧ op ≤ 0x9B#8) ∨ (0x9F#8 ≤ op ∧ op ≤ 0xA3#8) ∨ (0xA7#8 ≤ op ∧ op ≤ 0xAB#8) ∨
    (0xAF#8 ≤ op ∧ op ≤ 0xB3#8) ∨ (0xB7#8 ≤ op ∧ op ≤ 0xBB#8) ∨ (0xBF#8 ≤ op ∧ op ≤ 0xCA#8) ∨
    (0xCC#8 ≤ op ∧ op ≤ 0xE0#8) ∨ op = 0xE2#8 ∨ op = 0xE4#8 ∨ (0xE6#8 ≤ op ∧ op ≤ 0xE8#8) ∨
    (0xEA#8 ≤ op ∧ op ≤ 0xF8#8) ∨ 0xFA#8 ≤ op

/-- A byte of two decimal digits (packed BCD). -/
def bcd (n : Nat) : Byte := BitVec.ofNat 8 (n / 10 * 16 + n % 10)

/-- A state with the unused flag bits 5 and 3 replaced. -/
def withXY (s : State) (y x : Bool) : State :=
  { s with main := { s.main with f := { s.main.f with y := y, x := x } } }

end Sys2Proof.Machine.Claim

section

open Sys2Proof Sys2Proof.Machine Sys2Proof.Machine.Claim

/-- Decoding the encoding of any well-formed instruction gives it back, whatever bytes follow (R80, R82,
R98, 30_encoding.md). -/
def Obligations.DecodeOfEncodeIsInstruction : Prop :=
  ∀ i : Instr, i.WellFormed → ∀ x y z : Byte, decodeBytes (encode i ++ [x, y, z]) = .ok i

/-- Whatever bytes decode to an instruction begin with that instruction's one encoding, and it is well
formed (R80, R81, 30_encoding.md). -/
def Obligations.DecodedBytesAreEncoding : Prop :=
  ∀ (b0 b1 b2 b3 : Byte) (i : Instr), decode b0 b1 b2 b3 = .ok i →
    i.WellFormed ∧ encode i = [b0, b1, b2, b3].take i.length

/-- The byte sequences that decode to no instruction are exactly those of the table of R95 (R95). -/
def Obligations.DecodeFaultsAreExactlyTheListed : Prop :=
  (∀ b0 b1 b2 b3 : Byte, (∃ r, decode b0 b1 b2 b3 = .error r) ↔
    (b0 = 0xED#8 ∧ edFaults b1) ∨ ((b0 = 0xDD#8 ∨ b0 = 0xFD#8) ∧ indexFaults b1)) ∧
  ((List.range 256).countP fun n => (decode 0xED#8 (BitVec.ofNat 8 n) 0#8 0#8).toOption.isNone) = 198 ∧
  ((List.range 256).countP fun n => (decode 0xDD#8 (BitVec.ofNat 8 n) 0#8 0#8).toOption.isNone) = 170 ∧
  ((List.range 256).countP fun n => (decode 0xFD#8 (BitVec.ofNat 8 n) 0#8 0#8).toOption.isNone) = 170

/-- In every opcode space at most one row of the table takes any given bytes (R81). -/
def Obligations.NoBytesMatchTwoRows : Prop :=
  ∀ rows ∈ [mainRows, cbRows, edRows, ddRows, fdRows, ddcbRows, fdcbRows], ∀ op b1 b2 b3 : Byte,
    (rows.filter fun r => (r.takes op b1 b2 b3).isSome).length ≤ 1

/-- A few words written out from the encodings of the spec decode to the instructions they stand for (R90,
R91, R92, R93, R94). -/
def Obligations.SpecWordsDecode : Prop :=
  decodeBytes [0x06#8, 0x5A#8] = .ok (.ldRN .b 0x5A#8) ∧
  decodeBytes [0xC3#8, 0x34#8, 0x12#8] = .ok (.jpNn 0x1234#16) ∧
  decodeBytes [0xCB#8, 0x27#8] = .ok (.slaR .a) ∧
  decodeBytes [0xED#8, 0x4B#8, 0x00#8, 0xC0#8] = .ok (.ldDdIndNn .bc 0xC000#16) ∧
  decodeBytes [0xDD#8, 0x36#8, 0x02#8, 0x5A#8] = .ok (.ldIdxIxN 0x02#8 0x5A#8) ∧
  decodeBytes [0xFD#8, 0x5D#8] = .ok (.ldPPIy .e .iyl) ∧
  decodeBytes [0xDD#8, 0xCB#8, 0x05#8, 0xC6#8] = .ok (.setBIdxIx 0#3 0x05#8) ∧
  decodeBytes [0xFD#8, 0xCB#8, 0xFF#8, 0x7F#8] = .ok (.bitBIdxIyMirror 7#3 0xFF#8 .a) ∧
  decodeBytes [0x76#8] = .ok .halt

/-- A step runs the instruction its look-ahead bytes decode to, after the signals scheduled for the gap
(log 8), the EI update, the four reads and the advance of R (R31, R60, R341, R352, 60_exceptions.md). -/
def Obligations.StepRunsDecodedInstruction : Prop :=
  ∀ s : State,
    s.deliver = (s.signals.headD []).foldl State.signal { s with signals := s.signals.tail } ∧
    ∀ (u : State) (i : Instr), u = s.deliver.eiUpdate →
      decode (u.peek u.pc) (u.peek (u.pc + 1)) (u.peek (u.pc + 2)) (u.peek (u.pc + 3)) = .ok i →
      step s = exec i { u with
        bus := [.memRead (u.pc + 3) (u.peek (u.pc + 3)), .memRead (u.pc + 2) (u.peek (u.pc + 2)),
          .memRead (u.pc + 1) (u.peek (u.pc + 1)), .memRead u.pc (u.peek u.pc)] ++ u.bus
        r := u.r.extractLsb' 7 1 ++ (u.r.extractLsb' 0 7 + BitVec.ofNat 7 (match u.cfg.rPolicy with
          | .byteLength => i.length
          | .m1Count => if u.peek u.pc ∈ [0xCB#8, 0xED#8, 0xDD#8, 0xFD#8] then 2 else 1)) }

/-- A step whose bytes are no instruction faults, and leaves only the EI update and the four look-ahead
reads (R343, R95, 60_exceptions.md). -/
def Obligations.DecodeFaultLeavesStateAsRead : Prop :=
  ∀ (s u : State) (r : Reject), u = s.deliver.eiUpdate →
    decode (u.peek u.pc) (u.peek (u.pc + 1)) (u.peek (u.pc + 2)) (u.peek (u.pc + 3)) = .error r →
    step s = .fault (.decodeFault u.pc (u.peek u.pc) (u.peek (u.pc + 1)) (u.peek (u.pc + 2))
      (u.peek (u.pc + 3)) { u with
        bus := [.memRead (u.pc + 3) (u.peek (u.pc + 3)), .memRead (u.pc + 2) (u.peek (u.pc + 2)),
          .memRead (u.pc + 1) (u.peek (u.pc + 1)), .memRead u.pc (u.peek u.pc)] ++ u.bus })

/-- A step reports a next state exactly when its look-ahead bytes are an instruction, and it is never
refused (R340, R344, R95). -/
def Obligations.OnlyUndecodableBytesStop : Prop :=
  ∀ s : State, (s.SafeStep ↔ s.deliver.Decodes) ∧ ∀ r, step s ≠ .refused r

/-- Every instruction completes from every state, and the time it returns (log 7) is 4 to 23 units, the
range of the Time lines of the instruction rules (R394, R341, opcode_table.json, 70_reset_and_hazards.md). -/
def Obligations.EveryInstructionCompletes : Prop :=
  ∀ (i : Instr) (s : State), ∃ t, exec i s = .next t ∧ 4 ≤ t.returned ∧ t.returned ≤ 23

/-- The EI-delay update, and that a step with no signal before it applies it once, whatever instruction
runs, before the EI and DI rules (R342). -/
def Obligations.EiDelayAdvancesPerStep : Prop :=
  (∀ s : State, s.eiUpdate = match s.eiSt with
    | .none => s
    | .waiting => { s with eiSt := .satisfied }
    | .satisfied => { s with eiSt := .none, iff1 := true, iff2 := true }) ∧
  ∀ (s t : State) (i : Instr), s.signals.headD [] = [] →
    decode (s.peek s.pc) (s.peek (s.pc + 1)) (s.peek (s.pc + 2)) (s.peek (s.pc + 3)) = .ok i →
    step s = .next t →
    (i = .ei → t.eiSt = .waiting) ∧ (i = .di → t.eiSt = .none) ∧
    (i ≠ .ei → i ≠ .di → t.eiSt = match s.eiSt with
      | .none => .none
      | .waiting => .satisfied
      | .satisfied => .none) ∧
    (i ≠ .di → i ≠ .retn → i ≠ .reti →
      (s.eiSt = .satisfied → t.iff1 = true ∧ t.iff2 = true) ∧
      (s.eiSt ≠ .satisfied → t.iff1 = s.iff1 ∧ t.iff2 = s.iff2))

/-- In a step that runs any instruction but LD R,A, bit 7 of R stays and the low seven bits advance modulo
128 by the policy's increment (R19, R31). -/
def Obligations.RefreshCounterAdvance : Prop :=
  (∀ (s t u : State) (i : Instr), u = s.deliver.eiUpdate →
    decode (u.peek u.pc) (u.peek (u.pc + 1)) (u.peek (u.pc + 2)) (u.peek (u.pc + 3)) = .ok i →
    step s = .next t →
    (i = .ldRA → t.r = s.deliver.main.a) ∧
    (i ≠ .ldRA → t.r.toNat / 128 = s.r.toNat / 128 ∧
      t.r.toNat % 128 = (s.r.toNat % 128 + match s.cfg.rPolicy with
        | .byteLength => i.length
        | .m1Count => if u.peek u.pc ∈ [0xCB#8, 0xED#8, 0xDD#8, 0xFD#8] then 2 else 1) % 128)) ∧
  ∀ s : State, s.deliver.r = s.r ∧ s.signalNmi.r = s.r ∧ s.signalInt.r = s.r ∧ ∀ pc b0 b1 b2 b3 after,
    step s = .fault (.decodeFault pc b0 b1 b2 b3 after) → after.r = s.r

/-- I, R, IM, IFF1, IFF2, EI_ST, HALT_ST, the shadow set and the configuration change only by the
instructions that name them (R11, R18, R19, R20, R21, R29, R30, R34, R5). -/
def Obligations.SpecialRegisterWriters : Prop :=
  ∀ (i : Instr) (s t : State), exec i s = .next t →
    (i ≠ .ldIA → t.i = s.i) ∧ (i ≠ .ldRA → t.r = s.r) ∧
    (i ≠ .im0 → i ≠ .im1 → i ≠ .im2 → t.im = s.im) ∧
    (i ≠ .di → i ≠ .retn → (i = .reti → s.cfg.retiCopiesIff2 = false) → t.iff1 = s.iff1) ∧
    (i ≠ .di → t.iff2 = s.iff2) ∧ (i ≠ .di → i ≠ .ei → t.eiSt = s.eiSt) ∧
    (i ≠ .halt → t.haltSt = s.haltSt) ∧ (i ≠ .exAfAf → i ≠ .exx → t.alt = s.alt) ∧
    t.cfg = s.cfg ∧ t.signals = s.signals

/-- Every instruction outside the jumps, calls and returns moves PC past its own bytes, HALT and the
repeating block forms apart (R15, R80, R197, R217, R356). -/
def Obligations.PcAdvancesByLength : Prop :=
  ∀ (i : Instr) (s t : State), exec i s = .next t → i.group ≠ .jump → i.group ≠ .callReturn →
    (i ≠ .halt → ¬ repeats i → t.pc = s.pc + BitVec.ofNat 16 i.length) ∧
    (i = .halt ∨ repeats i → t.pc = s.pc ∨ t.pc = s.pc + BitVec.ofNat 16 i.length)

/-- No step depends on IM: two states that differ only in IM take steps that differ at most in IM (R21,
R351). -/
def Obligations.InterruptModeIsNeverRead : Prop :=
  ∀ (s t : State) (m : IntMode), step s = .next t →
    ∃ u, step { s with im := m } = .next u ∧ { u with im := t.im } = t

/-- Only PUSH AF and EX AF,AF' depend on bits 5 and 3 of F (R127, R16, R17). -/
def Obligations.UnusedFlagBitsAreNotRead : Prop :=
  ∀ (i : Instr) (s t : State) (y x : Bool), i ≠ .pushQq .af → i ≠ .exAfAf → exec i s = .next t →
    ∃ u, exec i (withXY s y x) = .next u ∧ withXY u t.main.f.y t.main.f.x = t

/-- Ports are reached by the input and output group alone, and memory forms never reach one (R51, R34,
20_memory.md). -/
def Obligations.OnlyIoInstructionsTouchPorts : Prop :=
  ∀ (i : Instr) (s t : State), exec i s = .next t → i.group ≠ .inputOutput →
    t.portIn = s.portIn ∧ ∃ es, t.bus = es ++ s.bus ∧ ∀ e ∈ es, onMemory e

/-- After any step plain memory (log 2) is what the writes of the trace (log 6), in order, made of it, and
every read answered what memory held at that moment (R52, R53, R60, R62, R65). -/
def Obligations.MemoryIsWhatTheBusWrote : Prop :=
  ∀ s t : State, step s = .next t →
    ∃ es, t.bus = es ++ s.bus ∧ t.mem = replay es s.mem ∧ honest es s.mem

/-- Every step keeps the invariant: memory canonical, IFF1 never set without IFF2, a waiting engine at a
HALT byte, memory being plain (log 2) (R20, R29, R50, R217, R342, R346, R348, R306). -/
def Obligations.StepKeepsInvariant : Prop :=
  ∀ s t : State, s.Inv → step s = .next t → t.Inv

/-- The state after reset has the invariant, for every value of the unspecified registers (R40, R381). -/
def Obligations.ResetHasInvariant : Prop :=
  ∀ (u : ResetUnspec) (cfg : Config), (State.resetWith u cfg).Inv

/-- Reset leaves PC = 0, A = F = FF, R = 0, IFF1 = IFF2 = 0, IM = 0, no latch set, whatever the other
registers hold (R381). -/
def Obligations.ResetValues : Prop :=
  (∀ (u : ResetUnspec) (cfg : Config) (s : State), s = State.resetWith u cfg →
    s.pc = 0x0000#16 ∧ s.main.a = 0xFF#8 ∧ s.main.f.toByte = 0xFF#8 ∧ s.r = 0x00#8 ∧ s.iff1 = false ∧
    s.iff2 = false ∧ s.im = .im0 ∧ s.haltSt = .none ∧ s.eiSt = .none ∧
    s.lookAhead.2.bus = [.memRead 3#16 (s.peek 3#16), .memRead 2#16 (s.peek 2#16),
      .memRead 1#16 (s.peek 1#16), .memRead 0#16 (s.peek 0#16)]) ∧
  ∃ u cfg, State.reset = State.resetWith u cfg

/-- signal_nmi: a waiting engine is only released; else PC is pushed, IFF2 takes IFF1, IFF1 is cleared, PC
goes to NMI_VECTOR (R346). -/
def Obligations.NonMaskableSignal : Prop :=
  (∀ s : State, s.haltSt = .waiting → s.signalNmi = { s with haltSt := .satisfied }) ∧
  (∀ s : State, s.haltSt ≠ .waiting →
    s.signalNmi.peek (s.sp - 1) = hi s.pc ∧ s.signalNmi.peek (s.sp - 2) = lo s.pc ∧
    (∀ a, a ≠ s.sp - 1 → a ≠ s.sp - 2 → s.signalNmi.peek a = s.peek a) ∧
    s.signalNmi = { s with
      mem := s.signalNmi.mem, bus := (pushes s s.pc).reverse ++ s.bus, sp := s.sp - 2,
      iff2 := s.iff1, iff1 := false, pc := s.cfg.nmiVector }) ∧
  Config.default.nmiVector = 0x0066#16

/-- signal_int: a waiting engine is only released; with IFF1 = 0 nothing happens; else PC is pushed, both
flip-flops cleared, PC goes to INT_VECTOR (R348). -/
def Obligations.MaskableSignal : Prop :=
  (∀ s : State, s.haltSt = .waiting → s.signalInt = { s with haltSt := .satisfied }) ∧
  (∀ s : State, s.haltSt ≠ .waiting → s.iff1 = false → s.signalInt = s) ∧
  (∀ s : State, s.haltSt ≠ .waiting → s.iff1 = true →
    s.signalInt.peek (s.sp - 1) = hi s.pc ∧ s.signalInt.peek (s.sp - 2) = lo s.pc ∧
    (∀ a, a ≠ s.sp - 1 → a ≠ s.sp - 2 → s.signalInt.peek a = s.peek a) ∧
    s.signalInt = { s with
      mem := s.signalInt.mem, bus := (pushes s s.pc).reverse ++ s.bus, sp := s.sp - 2,
      iff1 := false, iff2 := false, pc := s.cfg.intVector }) ∧
  Config.default.intVector = 0x0038#16

/-- HALT: from none or waiting it waits and leaves PC; from satisfied it goes on. The transitions of
HALT_ST are those of the table (R217, R350). -/
def Obligations.HaltWaitsAndIsReleased : Prop :=
  ∀ s : State,
    (s.haltSt ≠ .satisfied → exact .halt [0x76#8] s { s with haltSt := .waiting, returned := 4 }) ∧
    (s.haltSt = .satisfied → exact .halt [0x76#8] s { past s 1 4 [] with haltSt := .none }) ∧
    (s.haltSt = .waiting → s.signalNmi = { s with haltSt := .satisfied } ∧ s.signalInt =
      { s with haltSt := .satisfied }) ∧
    (s.haltSt ≠ .waiting → s.signalNmi.haltSt = s.haltSt ∧ s.signalInt.haltSt = s.haltSt ∧
      s.signalNmi.pc = s.cfg.nmiVector ∧ s.signalNmi.iff2 = s.iff1 ∧ s.signalNmi.iff1 = false ∧
      s.signalNmi.sp = s.sp - 2 ∧ s.signalNmi.peek (s.sp - 1) = hi s.pc ∧ s.signalNmi.peek (s.sp - 2) =
      lo s.pc) ∧
    (s.haltSt ≠ .waiting → s.iff1 = true → s.signalInt.pc = s.cfg.intVector ∧ s.signalInt.sp = s.sp - 2
      ∧ s.signalInt.iff1 = false ∧ s.signalInt.iff2 = false ∧ s.signalInt.peek (s.sp - 1) = hi s.pc ∧
      s.signalInt.peek (s.sp - 2) = lo s.pc) ∧
    (s.haltSt ≠ .waiting → s.iff1 = false → s.signalInt = s) ∧
    (∀ (i : Instr) (t : State), exec i s = .next t → i ≠ .halt → t.haltSt = s.haltSt)

/-- A waiting engine with no signal in the gap, in plain memory (log 2), takes a step that changes only R
(by 1), the EI delay, the trace and the time (4) (R217, R350, R341, R31, R60). -/
def Obligations.WaitingEngineIdles : Prop :=
  ∀ s : State, s.Inv → s.haltSt = .waiting → s.signals.headD [] = [] →
    step s = .next { s.eiUpdate with
      signals := s.signals.tail
      r := s.r.extractLsb' 7 1 ++ (s.r.extractLsb' 0 7 + 1)
      bus := [.memRead (s.pc + 3) (s.peek (s.pc + 3)), .memRead (s.pc + 2) (s.peek (s.pc + 2)),
        .memRead (s.pc + 1) (s.peek (s.pc + 1)), .memRead s.pc (s.peek s.pc)] ++ s.bus
      returned := 4 }

/-- RETN right after an NMI entry, the stack in plain memory (log 2), restores PC, SP and IFF1, and
changes no register and no byte outside the two stack bytes (R346, R353, R354, R306). -/
def Obligations.RetnUndoesNmiEntry : Prop :=
  ∀ s : State, s.haltSt ≠ .waiting →
    ∃ t, exec .retn s.signalNmi = .next t ∧
      t = { s with iff2 := s.iff1, mem := t.mem, bus := t.bus, returned := 14 } ∧
      ∀ a, a ≠ s.sp - 1 → a ≠ s.sp - 2 → t.peek a = s.peek a

/-- One-byte and two-byte reads and writes in plain memory (log 2): the value written is read back, every
other byte stays, the low byte is at the lower address (R53, 20_memory.md). -/
def Obligations.MemoryReadAfterWrite : Prop :=
  ∀ (s : State) (a x v : Word) (b : Byte),
    (s.memRead a = (s.peek a, { s with bus := .memRead a (s.peek a) :: s.bus })) ∧
    ((s.memWrite a b).peek x = if x = a then b else s.peek x) ∧
    (s.memWrite a b = { s with
      mem := (s.memWrite a b).mem, bus := .memWrite a b :: s.bus }) ∧
    (s.memRead16 a = (pair (s.peek (a + 1)) (s.peek a), { s with
      bus := [.memRead (a + 1) (s.peek (a + 1)), .memRead a (s.peek a)] ++ s.bus })) ∧
    ((s.memWrite16 a v).peek x = if x = a + 1 then hi v else if x = a then lo v else s.peek x) ∧
    (s.memWrite16 a v = { s with
      mem := (s.memWrite16 a v).mem
      bus := [.memWrite (a + 1) (hi v), .memWrite a (lo v)] ++ s.bus })

/-- Two memories in canonical form (log 2) that read alike at every address are the same data (R50,
20_memory.md). -/
def Obligations.EqualReadsEqualMemory : Prop :=
  ∀ m n : Memory, m.wf → n.wf → (∀ a : Word, m.read a.toNat = n.read a.toNat) → m = n

/-- Pairs and index halves are views of the registers; a selector reads and writes the register its code
names and no other (R12, R13, R22, R23, R24, R25, R26, R28). -/
def Obligations.RegisterViews : Prop :=
  (∀ (s : State) (r q : Reg8) (v : Byte),
    ((s.setR8 r v).getR8 q = if q = r then v else s.getR8 q) ∧ (s.setR8 r v).main.f = s.main.f ∧
    s.setR8 r v = { s with main := (s.setR8 r v).main }) ∧
  (∀ (s : State) (r q : RegP) (v : Byte),
    ((s.setP8 r v).getP8 q = if q = r then v else s.getP8 q) ∧ (s.setP8 r v).main.f = s.main.f ∧
    (s.setP8 r v).main.h = s.main.h ∧ (s.setP8 r v).main.l = s.main.l ∧
    s.setP8 r v = { s with main := (s.setP8 r v).main, ix := (s.setP8 r v).ix }) ∧
  (∀ (s : State) (r q : RegQ) (v : Byte),
    ((s.setQ8 r v).getQ8 q = if q = r then v else s.getQ8 q) ∧ (s.setQ8 r v).main.f = s.main.f ∧
    (s.setQ8 r v).main.h = s.main.h ∧ (s.setQ8 r v).main.l = s.main.l ∧
    s.setQ8 r v = { s with main := (s.setQ8 r v).main, iy := (s.setQ8 r v).iy }) ∧
  (∀ (s : State) (v : Word),
    s.main.bc.toNat = 256 * s.main.b.toNat + s.main.c.toNat ∧
    s.main.de.toNat = 256 * s.main.d.toNat + s.main.e.toNat ∧
    s.main.hl.toNat = 256 * s.main.h.toNat + s.main.l.toNat ∧
    s.main.af.toNat = 256 * s.main.a.toNat + s.main.f.toByte.toNat ∧
    s.ix.toNat = 256 * s.ixh.toNat + s.ixl.toNat ∧ s.iy.toNat = 256 * s.iyh.toNat + s.iyl.toNat ∧
    s.setBc v = { s with main := { s.main with b := hi v, c := lo v } } ∧
    s.setDe v = { s with main := { s.main with d := hi v, e := lo v } } ∧
    s.setHl v = { s with main := { s.main with h := hi v, l := lo v } } ∧
    (s.setAf v).main.af = v ∧ s.setAf v = { s with main := { s.main with
      a := hi v, f := (s.setAf v).main.f } }) ∧
  ((List.range 8).map fun n => Reg8.ofCode (BitVec.ofNat 3 n)) =
    [some .b, some .c, some .d, some .e, some .h, some .l, none, some .a] ∧
  ((List.range 8).map fun n => RegP.ofCode (BitVec.ofNat 3 n)) =
    [some .b, some .c, some .d, some .e, some .ixh, some .ixl, none, some .a] ∧
  ((List.range 8).map fun n => RegQ.ofCode (BitVec.ofNat 3 n)) =
    [some .b, some .c, some .d, some .e, some .iyh, some .iyl, none, some .a] ∧
  (∀ (s : State) (p q : PairDd) (v : Word),
    ((s.setDd p v).getDd q = if q = p then v else s.getDd q) ∧ (s.setDd p v).main.a = s.main.a ∧
    (s.setDd p v).main.f = s.main.f ∧
    s.setDd p v = { s with main := (s.setDd p v).main, sp := (s.setDd p v).sp }) ∧
  (∀ (s : State) (p q : PairQq) (v : Word),
    ((s.setQq p v).getQq q = if q = p then v else s.getQq q) ∧
    s.setQq p v = { s with main := (s.setQq p v).main }) ∧
  (∀ s : State,
    ((List.range 4).map fun n => s.getDd (PairDd.ofCode (BitVec.ofNat 2 n))) =
      [s.main.bc, s.main.de, s.main.hl, s.sp] ∧
    ((List.range 4).map fun n => s.getQq (PairQq.ofCode (BitVec.ofNat 2 n))) =
      [s.main.bc, s.main.de, s.main.hl, s.main.af] ∧
    ((List.range 4).map fun n => s.getPp (PairPp.ofCode (BitVec.ofNat 2 n))) =
      [s.main.bc, s.main.de, s.ix, s.sp] ∧
    ((List.range 4).map fun n => s.getRr (PairRr.ofCode (BitVec.ofNat 2 n))) =
      [s.main.bc, s.main.de, s.iy, s.sp])

/-- Displacements are signed and addresses wrap; each condition code reads the one flag R290 names (R85,
R88, R89, R290). -/
def Obligations.EffectiveAddressesAndConditions : Prop :=
  ∀ (s : State) (d : Byte),
    ((s.eaIx d).toNat : Int) = (s.ix.toNat + d.toInt) % 65536 ∧
    ((s.eaIy d).toNat : Int) = (s.iy.toNat + d.toInt) % 65536 ∧
    ((s.relTarget d).toNat : Int) = (s.pc.toNat + 2 + d.toInt) % 65536 ∧
    s.relTarget 0xFE#8 = s.pc ∧ s.relTarget 0x00#8 = s.pc + 2 ∧
    ((List.range 8).map fun n => s.cond (Cond.ofCode (BitVec.ofNat 3 n))) =
      [!s.main.f.z, s.main.f.z, !s.main.f.c, s.main.f.c, !s.main.f.pv, s.main.f.pv, !s.main.f.s,
        s.main.f.s]

/-- add8 and sub8: exact sums and differences and every flag, overflow also as signed range and as bit
formula; compare is subtract without the result (R113, R114, R116). -/
def Obligations.AddSub8Rules : Prop :=
  ∀ (a b : Byte) (cin : Bool) (f : Flags),
    (∀ p, p = add8 a b cin f →
      p.1.toNat = (a.toNat + b.toNat + cin.toNat) % 256 ∧ p.2.s = p.1.getLsbD 7 ∧
      p.2.z = decide (p.1 = 0#8) ∧ p.2.h = decide (a.toNat % 16 + b.toNat % 16 + cin.toNat > 15) ∧
      p.2.pv = (a.getLsbD 7 == b.getLsbD 7 && p.1.getLsbD 7 != a.getLsbD 7) ∧
      p.2.pv = ((a ^^^ ~~~b) &&& (a ^^^ p.1)).getLsbD 7 ∧
      p.2.pv = decide (¬ (-128 ≤ a.toInt + b.toInt + cin.toNat ∧ a.toInt + b.toInt + cin.toNat ≤ 127)) ∧
      p.2.n = false ∧ p.2.c = decide (a.toNat + b.toNat + cin.toNat > 255)) ∧
    (∀ p, p = sub8 a b cin f →
      (p.1.toNat : Int) = ((a.toNat : Int) - b.toNat - cin.toNat) % 256 ∧ p.2.s = p.1.getLsbD 7 ∧
      p.2.z = decide (p.1 = 0#8) ∧
      p.2.h = decide (((a.toNat % 16 : Nat) : Int) - (b.toNat % 16 : Nat) - cin.toNat < 0) ∧
      p.2.pv = (a.getLsbD 7 != b.getLsbD 7 && p.1.getLsbD 7 != a.getLsbD 7) ∧
      p.2.pv = ((a ^^^ b) &&& (a ^^^ p.1)).getLsbD 7 ∧
      p.2.pv = decide (¬ (-128 ≤ a.toInt - b.toInt - cin.toNat ∧ a.toInt - b.toInt - cin.toNat ≤ 127)) ∧
      p.2.n = true ∧ p.2.c = decide ((a.toNat : Int) - b.toNat - cin.toNat < 0)) ∧
    acc8 .add a b f = add8 a b false f ∧ acc8 .adc a b f = add8 a b f.c f ∧
    acc8 .sub a b f = sub8 a b false f ∧ acc8 .sbc a b f = sub8 a b f.c f ∧
    acc8 .cp a b f = (a, (sub8 a b false f).2)

/-- Logical operations, increment, decrement and parity: results and every flag (R111, R112, R115, R117,
R118). -/
def Obligations.LogicIncDecRules : Prop :=
  ∀ (a b : Byte) (f : Flags),
    (parity8 a = true ↔ ((List.range 8).countP fun k => a.getLsbD k) % 2 = 0) ∧
    (∀ op res h, (op, res, h) ∈ [(AccOp.and, a &&& b, true), (.or, a ||| b, false), (.xor, a ^^^ b, false)] →
      (acc8 op a b f).1 = res ∧ (acc8 op a b f).2 = { f with
        s := res.getLsbD 7, z := decide (res = 0#8), h := h, pv := parity8 res, n := false, c := false }) ∧
    (∀ p, p = inc8 a f → p.1.toNat = (a.toNat + 1) % 256 ∧ p.2 = { f with
      s := p.1.getLsbD 7, z := decide (p.1 = 0#8), h := decide (a.toNat % 16 = 15)
      pv := decide (a = 0x7F#8), n := false }) ∧
    (∀ p, p = dec8 a f → (p.1.toNat : Int) = ((a.toNat : Int) - 1) % 256 ∧ p.2 = { f with
      s := p.1.getLsbD 7, z := decide (p.1 = 0#8), h := decide (a.toNat % 16 = 0)
      pv := decide (a = 0x80#8), n := true })

/-- 16-bit add, add with carry, subtract with carry: results and every flag (R119, R120, R121). -/
def Obligations.Arithmetic16Rules : Prop :=
  ∀ (a b : Word) (f : Flags),
    (∀ p, p = add16 a b f → p.1.toNat = (a.toNat + b.toNat) % 65536 ∧ p.2 = { f with
      h := decide (a.toNat % 4096 + b.toNat % 4096 > 4095), n := false
      c := decide (a.toNat + b.toNat > 65535) }) ∧
    (∀ p, p = adc16 a b f → p.1.toNat = (a.toNat + b.toNat + f.c.toNat) % 65536 ∧ p.2 = { f with
      s := p.1.getLsbD 15, z := decide (p.1 = 0#16)
      h := decide (a.toNat % 4096 + b.toNat % 4096 + f.c.toNat > 4095)
      pv := (a.getLsbD 15 == b.getLsbD 15 && p.1.getLsbD 15 != a.getLsbD 15)
      n := false, c := decide (a.toNat + b.toNat + f.c.toNat > 65535) }) ∧
    (∀ p, p = sbc16 a b f → (p.1.toNat : Int) = ((a.toNat : Int) - b.toNat - f.c.toNat) % 65536 ∧
      p.2 = { f with
        s := p.1.getLsbD 15, z := decide (p.1 = 0#16)
        h := decide (((a.toNat % 4096 : Nat) : Int) - (b.toNat % 4096 : Nat) - f.c.toNat < 0)
        pv := (a.getLsbD 15 != b.getLsbD 15 && p.1.getLsbD 15 != a.getLsbD 15)
        n := true, c := decide ((a.toNat : Int) - b.toNat - f.c.toNat < 0) })

/-- The eight rotates and shifts bit by bit, the flags of the prefixed and of the accumulator forms, and
the flags of BIT (R123, R124, R125, R126). -/
def Obligations.RotateAndBitTestRules : Prop :=
  ∀ (v : Byte) (cin : Bool) (f : Flags),
    (∀ k, k < 7 → ∀ op ∈ [RotOp.rlc, .rl, .sla, .sll],
      (rot op v cin).1.getLsbD (k + 1) = v.getLsbD k ∧ (rot op v cin).2 = v.getLsbD 7) ∧
    (∀ k, k < 7 → ∀ op ∈ [RotOp.rrc, .rr, .sra, .srl],
      (rot op v cin).1.getLsbD k = v.getLsbD (k + 1) ∧ (rot op v cin).2 = v.getLsbD 0) ∧
    (rot .rlc v cin).1.getLsbD 0 = v.getLsbD 7 ∧ (rot .rl v cin).1.getLsbD 0 = cin ∧
    (rot .sla v cin).1.getLsbD 0 = false ∧ (rot .sll v cin).1.getLsbD 0 = true ∧
    (rot .rrc v cin).1.getLsbD 7 = v.getLsbD 0 ∧ (rot .rr v cin).1.getLsbD 7 = cin ∧
    (rot .sra v cin).1.getLsbD 7 = v.getLsbD 7 ∧ (rot .srl v cin).1.getLsbD 7 = false ∧
    (∀ op, ((rot8 op v f).1 = (rot op v f.c).1 ∧ (rot8 op v f).2 = { f with
      s := (rot op v f.c).1.getLsbD 7, z := decide ((rot op v f.c).1 = 0#8), h := false
      pv := parity8 (rot op v f.c).1, n := false, c := (rot op v f.c).2 }) ∧
      (rotA op v f).1 = (rot op v f.c).1 ∧
      (rotA op v f).2 = { f with h := false, n := false, c := (rot op v f.c).2 }) ∧
    ∀ b : BitVec 3, bittest b v f = { f with
      s := (v.getLsbD b.toNat && decide (b = 7#3)), z := !v.getLsbD b.toNat, h := true
      pv := !v.getLsbD b.toNat, n := false }

/-- After CP: Z says equal, C says below as unsigned, S and PV differ exactly when below as signed (R116,
R114, R238). -/
def Obligations.CompareOrdersOperands : Prop :=
  ∀ (s : State) (v : Byte), ∃ t, exec (.cpN v) s = .next t ∧ t.main.a = s.main.a ∧
    (t.cond .z = true ↔ s.main.a = v) ∧ (t.cond .c = true ↔ s.main.a.toNat < v.toNat) ∧
    (t.cond .m ≠ t.cond .pe ↔ s.main.a.toInt < v.toInt)

/-- ADD A,n then DAA adds two-digit decimal numbers; SUB n then DAA subtracts them; C is the decimal carry
or borrow (R211, R113, R114). -/
def Obligations.DaaCorrectsDecimalSums : Prop :=
  ∀ (s : State) (x y : Nat), x < 100 → y < 100 → s.main.a = bcd x →
    (∃ t u, exec (.addAN (bcd y)) s = .next t ∧ exec .daa t = .next u ∧
      u.main.a = bcd ((x + y) % 100) ∧ u.main.f.c = decide (100 ≤ x + y)) ∧
    (∃ t u, exec (.subN (bcd y)) s = .next t ∧ exec .daa t = .next u ∧
      u.main.a = bcd ((x + 100 - y) % 100) ∧ u.main.f.c = decide (x < y))

/-- The 8-bit loads into a register or index half: the value, the read, the time, PC, and that nothing
else changes (R141, R142, R143, R144, R149, R150, R151, R159, R160). -/
def Obligations.LoadRegisterForms : Prop :=
  ∀ (s : State) (r q : Reg8) (p p' : RegP) (q8 q8' : RegQ) (n d : Byte) (nn : Word),
    exact (.ldRR r q) [0x40#8 ||| (r.code <<< 3) ||| q.code] s ((past s 1 4 []).setR8 r (s.getR8 q)) ∧
    exact (.ldRN r n) [0x06#8 ||| (r.code <<< 3), n] s ((past s 2 7 []).setR8 r n) ∧
    exact (.ldRIndHl r) [0x46#8 ||| (r.code <<< 3)] s
      ((past s 1 7 [readOf s s.main.hl]).setR8 r (s.peek s.main.hl)) ∧
    exact (.ldRIdxIx r d) [0xDD#8, 0x46#8 ||| (r.code <<< 3), d] s
      ((past s 3 19 [readOf s (s.eaIx d)]).setR8 r (s.peek (s.eaIx d))) ∧
    exact (.ldRIdxIy r d) [0xFD#8, 0x46#8 ||| (r.code <<< 3), d] s
      ((past s 3 19 [readOf s (s.eaIy d)]).setR8 r (s.peek (s.eaIy d))) ∧
    exact .ldAIndBc [0x0A#8] s ((past s 1 7 [readOf s s.main.bc]).setR8 .a (s.peek s.main.bc)) ∧
    exact .ldAIndDe [0x1A#8] s ((past s 1 7 [readOf s s.main.de]).setR8 .a (s.peek s.main.de)) ∧
    exact (.ldAIndNn nn) [0x3A#8, lo nn, hi nn] s ((past s 3 13 [readOf s nn]).setR8 .a (s.peek nn)) ∧
    exact (.ldPPIx p p') [0xDD#8, 0x40#8 ||| (p.code <<< 3) ||| p'.code] s
      ((past s 2 8 []).setP8 p (s.getP8 p')) ∧
    exact (.ldPPIy q8 q8') [0xFD#8, 0x40#8 ||| (q8.code <<< 3) ||| q8'.code] s
      ((past s 2 8 []).setQ8 q8 (s.getQ8 q8')) ∧
    exact (.ldIxhN n) [0xDD#8, 0x26#8, n] s { past s 3 11 [] with ix := pair n (lo s.ix) } ∧
    exact (.ldIxlN n) [0xDD#8, 0x2E#8, n] s { past s 3 11 [] with ix := pair (hi s.ix) n } ∧
    exact (.ldIyhN n) [0xFD#8, 0x26#8, n] s { past s 3 11 [] with iy := pair n (lo s.iy) } ∧
    exact (.ldIylN n) [0xFD#8, 0x2E#8, n] s { past s 3 11 [] with iy := pair (hi s.iy) n }

/-- The 8-bit stores: the byte at the address the instruction computes, every other byte unchanged, no
register but PC changed (R145, R146, R147, R148, R152, R153, R154). -/
def Obligations.StoreByteForms : Prop :=
  ∀ (s : State) (r : Reg8) (n d : Byte) (nn : Word),
    stored (.ldIndHlR r) [0x70#8 ||| r.code] s (past s 1 7 [.memWrite s.main.hl (s.getR8 r)]) s.main.hl
      (s.getR8 r) ∧
    stored (.ldIndHlN n) [0x36#8, n] s (past s 2 10 [.memWrite s.main.hl n]) s.main.hl n ∧
    stored (.ldIdxIxR d r) [0xDD#8, 0x70#8 ||| r.code, d] s
      (past s 3 19 [.memWrite (s.eaIx d) (s.getR8 r)]) (s.eaIx d) (s.getR8 r) ∧
    stored (.ldIdxIxN d n) [0xDD#8, 0x36#8, d, n] s (past s 4 19 [.memWrite (s.eaIx d) n]) (s.eaIx d)
      n ∧
    stored (.ldIdxIyR d r) [0xFD#8, 0x70#8 ||| r.code, d] s
      (past s 3 19 [.memWrite (s.eaIy d) (s.getR8 r)]) (s.eaIy d) (s.getR8 r) ∧
    stored (.ldIdxIyN d n) [0xFD#8, 0x36#8, d, n] s (past s 4 19 [.memWrite (s.eaIy d) n]) (s.eaIy d)
      n ∧
    stored .ldIndBcA [0x02#8] s (past s 1 7 [.memWrite s.main.bc s.main.a]) s.main.bc s.main.a ∧
    stored .ldIndDeA [0x12#8] s (past s 1 7 [.memWrite s.main.de s.main.a]) s.main.de s.main.a ∧
    stored (.ldIndNnA nn) [0x32#8, lo nn, hi nn] s (past s 3 13 [.memWrite nn s.main.a]) nn s.main.a

/-- LD A,I and LD A,R set the flags and PV from IFF2; LD I,A and LD R,A copy A and set none (R155, R156,
R157, R158). -/
def Obligations.LoadInterruptRefreshForms : Prop :=
  ∀ s : State,
    flagged .ldAI [0xED#8, 0x57#8] s
      { s.main.f with
        s := s.i.getLsbD 7, z := decide (s.i = 0#8), h := false, pv := s.iff2, n := false }
      { pastDrawn s 2 9 [] with main := { s.main with a := s.i } } ∧
    flagged .ldAR [0xED#8, 0x5F#8] s
      { s.main.f with
        s := s.r.getLsbD 7, z := decide (s.r = 0#8), h := false, pv := s.iff2, n := false }
      { pastDrawn s 2 9 [] with main := { s.main with a := s.r } } ∧
    exact .ldIA [0xED#8, 0x47#8] s { past s 2 9 [] with i := s.main.a } ∧
    exact .ldRA [0xED#8, 0x4F#8] s { past s 2 9 [] with r := s.main.a }

/-- The 16-bit loads and stores: value, the two accesses low byte first, time, PC, every other register
and byte unchanged (R171, R172, R173, R174, R175, R176, R177, R178, R179, R180). -/
def Obligations.WordLoadStoreForms : Prop :=
  ∀ (s : State) (p : PairDd) (nn : Word),
    exact (.ldDdNn p nn) [0x01#8 ||| (p.code <<< 4), lo nn, hi nn] s ((past s 3 10 []).setDd p nn) ∧
    exact (.ldIxNn nn) [0xDD#8, 0x21#8, lo nn, hi nn] s { past s 4 14 [] with ix := nn } ∧
    exact (.ldIyNn nn) [0xFD#8, 0x21#8, lo nn, hi nn] s { past s 4 14 [] with iy := nn } ∧
    exact (.ldHlIndNn nn) [0x2A#8, lo nn, hi nn] s
      ((past s 3 16 (readsWord s nn)).setDd .hl (word s nn)) ∧
    exact (.ldDdIndNn p nn) [0xED#8, 0x4B#8 ||| (p.code <<< 4), lo nn, hi nn] s
      ((past s 4 20 (readsWord s nn)).setDd p (word s nn)) ∧
    exact (.ldIxIndNn nn) [0xDD#8, 0x2A#8, lo nn, hi nn] s
      { past s 4 20 (readsWord s nn) with ix := word s nn } ∧
    exact (.ldIyIndNn nn) [0xFD#8, 0x2A#8, lo nn, hi nn] s
      { past s 4 20 (readsWord s nn) with iy := word s nn } ∧
    exact .ldSpHl [0xF9#8] s { past s 1 6 [] with sp := s.main.hl } ∧
    exact .ldSpIx [0xDD#8, 0xF9#8] s { past s 2 10 [] with sp := s.ix } ∧
    exact .ldSpIy [0xFD#8, 0xF9#8] s { past s 2 10 [] with sp := s.iy } ∧
    stored16 (.ldIndNnHl nn) [0x22#8, lo nn, hi nn] s
      (past s 3 16 [.memWrite nn (lo s.main.hl), .memWrite (nn + 1) (hi s.main.hl)]) nn s.main.hl ∧
    stored16 (.ldIndNnDd nn p) [0xED#8, 0x43#8 ||| (p.code <<< 4), lo nn, hi nn] s
      (past s 4 20 [.memWrite nn (lo (s.getDd p)), .memWrite (nn + 1) (hi (s.getDd p))]) nn
      (s.getDd p) ∧
    stored16 (.ldIndNnIx nn) [0xDD#8, 0x22#8, lo nn, hi nn] s
      (past s 4 20 [.memWrite nn (lo s.ix), .memWrite (nn + 1) (hi s.ix)]) nn s.ix ∧
    stored16 (.ldIndNnIy nn) [0xFD#8, 0x22#8, lo nn, hi nn] s
      (past s 4 20 [.memWrite nn (lo s.iy), .memWrite (nn + 1) (hi s.iy)]) nn s.iy

/-- PUSH stores the high byte below SP and the low byte below that and moves SP down by 2; POP reads them
back and moves SP up (R69, R181, R182, R183, R184). -/
def Obligations.PushPopForms : Prop :=
  ∀ (s : State) (p : PairQq),
    stored16 (.pushQq p) [0xC5#8 ||| (p.code <<< 4)] s
      { past s 1 11 (pushes s (s.getQq p)) with sp := s.sp - 2 } (s.sp - 2) (s.getQq p) ∧
    stored16 .pushIx [0xDD#8, 0xE5#8] s { past s 2 15 (pushes s s.ix) with sp := s.sp - 2 } (s.sp - 2)
      s.ix ∧
    stored16 .pushIy [0xFD#8, 0xE5#8] s { past s 2 15 (pushes s s.iy) with sp := s.sp - 2 } (s.sp - 2)
      s.iy ∧
    exact (.popQq p) [0xC1#8 ||| (p.code <<< 4)] s
      (State.setQq { past s 1 10 (readsWord s s.sp) with sp := s.sp + 2 } p (word s s.sp)) ∧
    exact .popIx [0xDD#8, 0xE1#8] s
      { past s 2 14 (readsWord s s.sp) with sp := s.sp + 2, ix := word s s.sp } ∧
    exact .popIy [0xFD#8, 0xE1#8] s
      { past s 2 14 (readsWord s s.sp) with sp := s.sp + 2, iy := word s s.sp } ∧
    ((s.setQq .af (word s s.sp)).main.f.toByte = s.peek s.sp ∧ (s.setQq .af (word s s.sp)).main.a =
      s.peek (s.sp + 1)) ∧
    ((s.sp - 2) + 1 = s.sp - 1)

/-- PUSH followed by POP, the stack in plain memory (log 2), moves the exact word, restores SP, and
changes only PC, the two bytes below SP, the trace and the time (R181, R183, R69, R14). -/
def Obligations.PushThenPopRestores : Prop :=
  ∀ (s : State) (p q : PairQq), ∃ t u, exec (.pushQq p) s = .next t ∧ exec (.popQq q) t = .next u ∧
    u = State.setQq { s with
      pc := s.pc + 2, mem := u.mem, returned := 10
      bus := [.memRead (s.sp - 1) (hi (s.getQq p)), .memRead (s.sp - 2) (lo (s.getQq p)),
        .memWrite (s.sp - 2) (lo (s.getQq p)), .memWrite (s.sp - 1) (hi (s.getQq p))] ++ s.bus } q (s.getQq p) ∧
    u.getQq q = s.getQq p ∧ (q = p → u.main = s.main) ∧
    ∀ a, a ≠ s.sp - 1 → a ≠ s.sp - 2 → u.peek a = s.peek a

/-- EX DE,HL; EX AF,AF'; EXX; EX (SP),HL; EX (SP),IX; EX (SP),IY exchange exactly what they name (R191,
R192, R193, R194, R195). -/
def Obligations.ExchangeForms : Prop :=
  ∀ s : State,
    exact .exDeHl [0xEB#8] s
      { past s 1 4 [] with
        main := { s.main with d := s.main.h, e := s.main.l, h := s.main.d, l := s.main.e } } ∧
    exact .exAfAf [0x08#8] s
      { past s 1 4 [] with
        main := { s.main with a := s.alt.a, f := s.alt.f },
        alt := { s.alt with a := s.main.a, f := s.main.f } } ∧
    exact .exx [0xD9#8] s
      { past s 1 4 [] with
        main := { s.alt with a := s.main.a, f := s.main.f },
        alt := { s.main with a := s.alt.a, f := s.alt.f } } ∧
    stored16 .exIndSpHl [0xE3#8] s
      { past s 1 19
          (readsWord s s.sp ++ [.memWrite (s.sp + 1) (hi s.main.hl), .memWrite s.sp (lo s.main.hl)])
          with
        main := { s.main with h := s.peek (s.sp + 1), l := s.peek s.sp } } s.sp s.main.hl ∧
    stored16 .exIndSpIx [0xDD#8, 0xE3#8] s
      { past s 2 23 (readsWord s s.sp ++ [.memWrite (s.sp + 1) (hi s.ix), .memWrite s.sp (lo s.ix)])
          with
        ix := word s s.sp } s.sp s.ix ∧
    stored16 .exIndSpIy [0xFD#8, 0xE3#8] s
      { past s 2 23 (readsWord s s.sp ++ [.memWrite (s.sp + 1) (hi s.iy), .memWrite s.sp (lo s.iy)])
          with
        iy := word s s.sp } s.sp s.iy

/-- LDI, LDD, and one iteration of LDIR, LDDR: the byte, the pointers, the count, the flags, and PC
staying while BC is not 0 (R196, R197, R198, R199). -/
def Obligations.BlockTransferForms : Prop :=
  ∀ s : State,
    flaggedStored .ldi [0xED#8, 0xA0#8] s
      { s.main.f with h := false, n := false, pv := decide (s.main.bc - 1 ≠ 0) }
      { pastDrawn s 2 16 [readOf s s.main.hl, .memWrite s.main.de (s.peek s.main.hl)] with
        main := { s.main with
                  h := hi (s.main.hl + 1), l := lo (s.main.hl + 1), d := hi (s.main.de + 1),
                  e := lo (s.main.de + 1), b := hi (s.main.bc - 1), c := lo (s.main.bc - 1) } }
      s.main.de (s.peek s.main.hl) ∧
    flaggedStored .ldir [0xED#8, 0xB0#8] s
      { s.main.f with h := false, n := false, pv := decide (s.main.bc - 1 ≠ 0) }
      { pastDrawn s 2 (if s.main.bc - 1 = 0 then 16 else 21)
          [readOf s s.main.hl, .memWrite s.main.de (s.peek s.main.hl)] with
        main := { s.main with
                  h := hi (s.main.hl + 1), l := lo (s.main.hl + 1), d := hi (s.main.de + 1),
                  e := lo (s.main.de + 1), b := hi (s.main.bc - 1), c := lo (s.main.bc - 1) },
        pc := if s.main.bc - 1 = 0 then s.pc + 2 else s.pc } s.main.de (s.peek s.main.hl) ∧
    flaggedStored .ldd [0xED#8, 0xA8#8] s
      { s.main.f with h := false, n := false, pv := decide (s.main.bc - 1 ≠ 0) }
      { pastDrawn s 2 16 [readOf s s.main.hl, .memWrite s.main.de (s.peek s.main.hl)] with
        main := { s.main with
                  h := hi (s.main.hl - 1), l := lo (s.main.hl - 1), d := hi (s.main.de - 1),
                  e := lo (s.main.de - 1), b := hi (s.main.bc - 1), c := lo (s.main.bc - 1) } }
      s.main.de (s.peek s.main.hl) ∧
    flaggedStored .lddr [0xED#8, 0xB8#8] s
      { s.main.f with h := false, n := false, pv := decide (s.main.bc - 1 ≠ 0) }
      { pastDrawn s 2 (if s.main.bc - 1 = 0 then 16 else 21)
          [readOf s s.main.hl, .memWrite s.main.de (s.peek s.main.hl)] with
        main := { s.main with
                  h := hi (s.main.hl - 1), l := lo (s.main.hl - 1), d := hi (s.main.de - 1),
                  e := lo (s.main.de - 1), b := hi (s.main.bc - 1), c := lo (s.main.bc - 1) },
        pc := if s.main.bc - 1 = 0 then s.pc + 2 else s.pc } s.main.de (s.peek s.main.hl)

/-- CPI, CPD, and one iteration of CPIR, CPDR: the comparison's flags, the pointer, the count, and PC
staying until BC is 0 or a match (R200, R201, R202, R203). -/
def Obligations.BlockSearchForms : Prop :=
  ∀ s : State,
    flagged .cpi [0xED#8, 0xA1#8] s
      { s.main.f with
        s := (s.main.a - s.peek s.main.hl).getLsbD 7, z := decide (s.main.a = s.peek s.main.hl),
        h := decide (s.main.a.toNat % 16 < (s.peek s.main.hl).toNat % 16),
        pv := decide (s.main.bc - 1 ≠ 0), n := true }
      { pastDrawn s 2 16 [readOf s s.main.hl] with
        main := { s.main with
                  h := hi (s.main.hl + 1), l := lo (s.main.hl + 1), b := hi (s.main.bc - 1),
                  c := lo (s.main.bc - 1) } } ∧
    flagged .cpir [0xED#8, 0xB1#8] s
      { s.main.f with
        s := (s.main.a - s.peek s.main.hl).getLsbD 7, z := decide (s.main.a = s.peek s.main.hl),
        h := decide (s.main.a.toNat % 16 < (s.peek s.main.hl).toNat % 16),
        pv := decide (s.main.bc - 1 ≠ 0), n := true }
      { pastDrawn s 2 (if s.main.bc - 1 = 0 ∨ s.main.a = s.peek s.main.hl then 16 else 21)
          [readOf s s.main.hl] with
        main := { s.main with
                  h := hi (s.main.hl + 1), l := lo (s.main.hl + 1), b := hi (s.main.bc - 1),
                  c := lo (s.main.bc - 1) },
        pc := if s.main.bc - 1 = 0 ∨ s.main.a = s.peek s.main.hl then s.pc + 2 else s.pc } ∧
    flagged .cpd [0xED#8, 0xA9#8] s
      { s.main.f with
        s := (s.main.a - s.peek s.main.hl).getLsbD 7, z := decide (s.main.a = s.peek s.main.hl),
        h := decide (s.main.a.toNat % 16 < (s.peek s.main.hl).toNat % 16),
        pv := decide (s.main.bc - 1 ≠ 0), n := true }
      { pastDrawn s 2 16 [readOf s s.main.hl] with
        main := { s.main with
                  h := hi (s.main.hl - 1), l := lo (s.main.hl - 1), b := hi (s.main.bc - 1),
                  c := lo (s.main.bc - 1) } } ∧
    flagged .cpdr [0xED#8, 0xB9#8] s
      { s.main.f with
        s := (s.main.a - s.peek s.main.hl).getLsbD 7, z := decide (s.main.a = s.peek s.main.hl),
        h := decide (s.main.a.toNat % 16 < (s.peek s.main.hl).toNat % 16),
        pv := decide (s.main.bc - 1 ≠ 0), n := true }
      { pastDrawn s 2 (if s.main.bc - 1 = 0 ∨ s.main.a = s.peek s.main.hl then 16 else 21)
          [readOf s s.main.hl] with
        main := { s.main with
                  h := hi (s.main.hl - 1), l := lo (s.main.hl - 1), b := hi (s.main.bc - 1),
                  c := lo (s.main.bc - 1) },
        pc := if s.main.bc - 1 = 0 ∨ s.main.a = s.peek s.main.hl then s.pc + 2 else s.pc }

/-- LDIR, executed until it is done, copies a whole block of plain memory (log 2): n bytes for BC = n, and
changes nothing else in memory (R196, R197). -/
def Obligations.LdirCopiesBlock : Prop :=
  ∀ (s : State) (n : Nat), s.main.bc.toNat = n → 1 ≤ n →
    (∀ j k, j < n → k < n → s.main.de + BitVec.ofNat 16 j ≠ s.main.hl + BitVec.ofNat 16 k) →
    ∃ t, again .ldir n s = .next t ∧
      (∀ k, k < n → t.peek (s.main.de + BitVec.ofNat 16 k) = s.peek (s.main.hl + BitVec.ofNat 16 k)) ∧
      (∀ a, (∀ k, k < n → a ≠ s.main.de + BitVec.ofNat 16 k) → t.peek a = s.peek a) ∧
      t.main.hl = s.main.hl + BitVec.ofNat 16 n ∧ t.main.de = s.main.de + BitVec.ofNat 16 n ∧
      t.main.bc = 0 ∧ t.main.f.pv = false ∧ t.main.a = s.main.a ∧ t.pc = s.pc + 2 ∧ t.returned = 16

/-- DAA, CPL, NEG, CCF, SCF: the result and every flag (R211, R212, R213, R214, R215). -/
def Obligations.AccumulatorAndCarryForms : Prop :=
  ∀ (s : State),
    (∀ (low corr : Nat) (res : Byte), low = s.main.a.toNat % 16 → corr =
      (if s.main.f.h = true ∨ low > 9 then 6 else 0) +
      (if s.main.f.c = true ∨ s.main.a.toNat > 0x99 then 0x60 else 0) → res =
      (if s.main.f.n = true then s.main.a - BitVec.ofNat 8 corr else s.main.a + BitVec.ofNat 8 corr) →
      flagged .daa [0x27#8] s
      { s.main.f with
        s := res.getLsbD 7, z := decide (res = 0#8),
        h := if s.main.f.n = true then s.main.f.h && decide (low < 6) else decide (low > 9),
        pv := parity8 res, c := s.main.f.c || decide (s.main.a.toNat > 0x99) }
      { pastDrawn s 1 4 [] with main := { s.main with a := res } }) ∧
    flagged .cpl [0x2F#8] s { s.main.f with h := true, n := true }
      { pastDrawn s 1 4 [] with main := { s.main with a := ~~~s.main.a } } ∧
    flagged .neg [0xED#8, 0x44#8] s
      { s.main.f with
        s := (-s.main.a).getLsbD 7, z := decide (s.main.a = 0#8), h := decide (s.main.a.toNat % 16 ≠ 0),
        pv := decide (s.main.a = 0x80#8), n := true, c := decide (s.main.a ≠ 0#8) }
      { pastDrawn s 2 8 [] with main := { s.main with a := -s.main.a } } ∧
    flagged .ccf [0x3F#8] s { s.main.f with h := s.main.f.c, n := false, c := !s.main.f.c }
      (pastDrawn s 1 4 []) ∧
    flagged .scf [0x37#8] s { s.main.f with h := false, n := false, c := true } (pastDrawn s 1 4 [])

/-- NOP, DI, EI, IM 0, IM 1, IM 2 change exactly what they name (R216, R218, R219, R220, R221, R222). -/
def Obligations.ControlForms : Prop :=
  ∀ s : State,
    exact .nop [0x00#8] s (past s 1 4 []) ∧
    exact .di [0xF3#8] s { past s 1 4 [] with iff1 := false, iff2 := false, eiSt := .none } ∧
    exact .ei [0xFB#8] s { past s 1 4 [] with eiSt := .waiting } ∧
    exact .im0 [0xED#8, 0x46#8] s { past s 2 8 [] with im := .im0 } ∧
    exact .im1 [0xED#8, 0x56#8] s { past s 2 8 [] with im := .im1 } ∧
    exact .im2 [0xED#8, 0x5E#8] s { past s 2 8 [] with im := .im2 }

/-- ADD, ADC, SUB, SBC and CP in all nine forms: A takes the result (CP writes none), the six flags are
the operation's, nothing else changes (R231, R232, R233, R234, R238). -/
def Obligations.AddSubCompareForms : Prop :=
  ∀ (s : State) (r : Reg8) (n d : Byte),
    flagged (.addAR r) [0x80#8 ||| r.code] s ((add8 s.main.a (s.getR8 r) false s.main.f).2)
      { pastDrawn s 1 4 [] with
        main := { s.main with a := (add8 s.main.a (s.getR8 r) false s.main.f).1 } } ∧
    flagged (.addAN n) [0xC6#8, n] s ((add8 s.main.a n false s.main.f).2)
      { pastDrawn s 2 7 [] with main := { s.main with a := (add8 s.main.a n false s.main.f).1 } } ∧
    flagged .addAIndHl [0x86#8] s ((add8 s.main.a (s.peek s.main.hl) false s.main.f).2)
      { pastDrawn s 1 7 [readOf s s.main.hl] with
        main := { s.main with a := (add8 s.main.a (s.peek s.main.hl) false s.main.f).1 } } ∧
    flagged (.addAIdxIx d) [0xDD#8, 0x86#8, d] s ((add8 s.main.a (s.peek (s.eaIx d)) false s.main.f).2)
      { pastDrawn s 3 19 [readOf s (s.eaIx d)] with
        main := { s.main with a := (add8 s.main.a (s.peek (s.eaIx d)) false s.main.f).1 } } ∧
    flagged .addAIxh [0xDD#8, 0x84#8] s ((add8 s.main.a s.ixh false s.main.f).2)
      { pastDrawn s 2 8 [] with main := { s.main with a := (add8 s.main.a s.ixh false s.main.f).1 } } ∧
    flagged .addAIxl [0xDD#8, 0x85#8] s ((add8 s.main.a s.ixl false s.main.f).2)
      { pastDrawn s 2 8 [] with main := { s.main with a := (add8 s.main.a s.ixl false s.main.f).1 } } ∧
    flagged (.addAIdxIy d) [0xFD#8, 0x86#8, d] s ((add8 s.main.a (s.peek (s.eaIy d)) false s.main.f).2)
      { pastDrawn s 3 19 [readOf s (s.eaIy d)] with
        main := { s.main with a := (add8 s.main.a (s.peek (s.eaIy d)) false s.main.f).1 } } ∧
    flagged .addAIyh [0xFD#8, 0x84#8] s ((add8 s.main.a s.iyh false s.main.f).2)
      { pastDrawn s 2 8 [] with main := { s.main with a := (add8 s.main.a s.iyh false s.main.f).1 } } ∧
    flagged .addAIyl [0xFD#8, 0x85#8] s ((add8 s.main.a s.iyl false s.main.f).2)
      { pastDrawn s 2 8 [] with main := { s.main with a := (add8 s.main.a s.iyl false s.main.f).1 } } ∧
    flagged (.adcAR r) [0x88#8 ||| r.code] s ((add8 s.main.a (s.getR8 r) s.main.f.c s.main.f).2)
      { pastDrawn s 1 4 [] with
        main := { s.main with a := (add8 s.main.a (s.getR8 r) s.main.f.c s.main.f).1 } } ∧
    flagged (.adcAN n) [0xCE#8, n] s ((add8 s.main.a n s.main.f.c s.main.f).2)
      { pastDrawn s 2 7 [] with main := { s.main with a := (add8 s.main.a n s.main.f.c s.main.f).1 } } ∧
    flagged .adcAIndHl [0x8E#8] s ((add8 s.main.a (s.peek s.main.hl) s.main.f.c s.main.f).2)
      { pastDrawn s 1 7 [readOf s s.main.hl] with
        main := { s.main with a := (add8 s.main.a (s.peek s.main.hl) s.main.f.c s.main.f).1 } } ∧
    flagged (.adcAIdxIx d) [0xDD#8, 0x8E#8, d] s
      ((add8 s.main.a (s.peek (s.eaIx d)) s.main.f.c s.main.f).2)
      { pastDrawn s 3 19 [readOf s (s.eaIx d)] with
        main := { s.main with a := (add8 s.main.a (s.peek (s.eaIx d)) s.main.f.c s.main.f).1 } } ∧
    flagged .adcAIxh [0xDD#8, 0x8C#8] s ((add8 s.main.a s.ixh s.main.f.c s.main.f).2)
      { pastDrawn s 2 8 [] with
        main := { s.main with a := (add8 s.main.a s.ixh s.main.f.c s.main.f).1 } } ∧
    flagged .adcAIxl [0xDD#8, 0x8D#8] s ((add8 s.main.a s.ixl s.main.f.c s.main.f).2)
      { pastDrawn s 2 8 [] with
        main := { s.main with a := (add8 s.main.a s.ixl s.main.f.c s.main.f).1 } } ∧
    flagged (.adcAIdxIy d) [0xFD#8, 0x8E#8, d] s
      ((add8 s.main.a (s.peek (s.eaIy d)) s.main.f.c s.main.f).2)
      { pastDrawn s 3 19 [readOf s (s.eaIy d)] with
        main := { s.main with a := (add8 s.main.a (s.peek (s.eaIy d)) s.main.f.c s.main.f).1 } } ∧
    flagged .adcAIyh [0xFD#8, 0x8C#8] s ((add8 s.main.a s.iyh s.main.f.c s.main.f).2)
      { pastDrawn s 2 8 [] with
        main := { s.main with a := (add8 s.main.a s.iyh s.main.f.c s.main.f).1 } } ∧
    flagged .adcAIyl [0xFD#8, 0x8D#8] s ((add8 s.main.a s.iyl s.main.f.c s.main.f).2)
      { pastDrawn s 2 8 [] with
        main := { s.main with a := (add8 s.main.a s.iyl s.main.f.c s.main.f).1 } } ∧
    flagged (.subR r) [0x90#8 ||| r.code] s ((sub8 s.main.a (s.getR8 r) false s.main.f).2)
      { pastDrawn s 1 4 [] with
        main := { s.main with a := (sub8 s.main.a (s.getR8 r) false s.main.f).1 } } ∧
    flagged (.subN n) [0xD6#8, n] s ((sub8 s.main.a n false s.main.f).2)
      { pastDrawn s 2 7 [] with main := { s.main with a := (sub8 s.main.a n false s.main.f).1 } } ∧
    flagged .subIndHl [0x96#8] s ((sub8 s.main.a (s.peek s.main.hl) false s.main.f).2)
      { pastDrawn s 1 7 [readOf s s.main.hl] with
        main := { s.main with a := (sub8 s.main.a (s.peek s.main.hl) false s.main.f).1 } } ∧
    flagged (.subIdxIx d) [0xDD#8, 0x96#8, d] s ((sub8 s.main.a (s.peek (s.eaIx d)) false s.main.f).2)
      { pastDrawn s 3 19 [readOf s (s.eaIx d)] with
        main := { s.main with a := (sub8 s.main.a (s.peek (s.eaIx d)) false s.main.f).1 } } ∧
    flagged .subIxh [0xDD#8, 0x94#8] s ((sub8 s.main.a s.ixh false s.main.f).2)
      { pastDrawn s 2 8 [] with main := { s.main with a := (sub8 s.main.a s.ixh false s.main.f).1 } } ∧
    flagged .subIxl [0xDD#8, 0x95#8] s ((sub8 s.main.a s.ixl false s.main.f).2)
      { pastDrawn s 2 8 [] with main := { s.main with a := (sub8 s.main.a s.ixl false s.main.f).1 } } ∧
    flagged (.subIdxIy d) [0xFD#8, 0x96#8, d] s ((sub8 s.main.a (s.peek (s.eaIy d)) false s.main.f).2)
      { pastDrawn s 3 19 [readOf s (s.eaIy d)] with
        main := { s.main with a := (sub8 s.main.a (s.peek (s.eaIy d)) false s.main.f).1 } } ∧
    flagged .subIyh [0xFD#8, 0x94#8] s ((sub8 s.main.a s.iyh false s.main.f).2)
      { pastDrawn s 2 8 [] with main := { s.main with a := (sub8 s.main.a s.iyh false s.main.f).1 } } ∧
    flagged .subIyl [0xFD#8, 0x95#8] s ((sub8 s.main.a s.iyl false s.main.f).2)
      { pastDrawn s 2 8 [] with main := { s.main with a := (sub8 s.main.a s.iyl false s.main.f).1 } } ∧
    flagged (.sbcAR r) [0x98#8 ||| r.code] s ((sub8 s.main.a (s.getR8 r) s.main.f.c s.main.f).2)
      { pastDrawn s 1 4 [] with
        main := { s.main with a := (sub8 s.main.a (s.getR8 r) s.main.f.c s.main.f).1 } } ∧
    flagged (.sbcAN n) [0xDE#8, n] s ((sub8 s.main.a n s.main.f.c s.main.f).2)
      { pastDrawn s 2 7 [] with main := { s.main with a := (sub8 s.main.a n s.main.f.c s.main.f).1 } } ∧
    flagged .sbcAIndHl [0x9E#8] s ((sub8 s.main.a (s.peek s.main.hl) s.main.f.c s.main.f).2)
      { pastDrawn s 1 7 [readOf s s.main.hl] with
        main := { s.main with a := (sub8 s.main.a (s.peek s.main.hl) s.main.f.c s.main.f).1 } } ∧
    flagged (.sbcAIdxIx d) [0xDD#8, 0x9E#8, d] s
      ((sub8 s.main.a (s.peek (s.eaIx d)) s.main.f.c s.main.f).2)
      { pastDrawn s 3 19 [readOf s (s.eaIx d)] with
        main := { s.main with a := (sub8 s.main.a (s.peek (s.eaIx d)) s.main.f.c s.main.f).1 } } ∧
    flagged .sbcAIxh [0xDD#8, 0x9C#8] s ((sub8 s.main.a s.ixh s.main.f.c s.main.f).2)
      { pastDrawn s 2 8 [] with
        main := { s.main with a := (sub8 s.main.a s.ixh s.main.f.c s.main.f).1 } } ∧
    flagged .sbcAIxl [0xDD#8, 0x9D#8] s ((sub8 s.main.a s.ixl s.main.f.c s.main.f).2)
      { pastDrawn s 2 8 [] with
        main := { s.main with a := (sub8 s.main.a s.ixl s.main.f.c s.main.f).1 } } ∧
    flagged (.sbcAIdxIy d) [0xFD#8, 0x9E#8, d] s
      ((sub8 s.main.a (s.peek (s.eaIy d)) s.main.f.c s.main.f).2)
      { pastDrawn s 3 19 [readOf s (s.eaIy d)] with
        main := { s.main with a := (sub8 s.main.a (s.peek (s.eaIy d)) s.main.f.c s.main.f).1 } } ∧
    flagged .sbcAIyh [0xFD#8, 0x9C#8] s ((sub8 s.main.a s.iyh s.main.f.c s.main.f).2)
      { pastDrawn s 2 8 [] with
        main := { s.main with a := (sub8 s.main.a s.iyh s.main.f.c s.main.f).1 } } ∧
    flagged .sbcAIyl [0xFD#8, 0x9D#8] s ((sub8 s.main.a s.iyl s.main.f.c s.main.f).2)
      { pastDrawn s 2 8 [] with
        main := { s.main with a := (sub8 s.main.a s.iyl s.main.f.c s.main.f).1 } } ∧
    flagged (.cpR r) [0xB8#8 ||| r.code] s ((sub8 s.main.a (s.getR8 r) false s.main.f).2)
      (pastDrawn s 1 4 []) ∧
    flagged (.cpN n) [0xFE#8, n] s ((sub8 s.main.a n false s.main.f).2) (pastDrawn s 2 7 []) ∧
    flagged .cpIndHl [0xBE#8] s ((sub8 s.main.a (s.peek s.main.hl) false s.main.f).2)
      (pastDrawn s 1 7 [readOf s s.main.hl]) ∧
    flagged (.cpIdxIx d) [0xDD#8, 0xBE#8, d] s ((sub8 s.main.a (s.peek (s.eaIx d)) false s.main.f).2)
      (pastDrawn s 3 19 [readOf s (s.eaIx d)]) ∧
    flagged .cpIxh [0xDD#8, 0xBC#8] s ((sub8 s.main.a s.ixh false s.main.f).2) (pastDrawn s 2 8 []) ∧
    flagged .cpIxl [0xDD#8, 0xBD#8] s ((sub8 s.main.a s.ixl false s.main.f).2) (pastDrawn s 2 8 []) ∧
    flagged (.cpIdxIy d) [0xFD#8, 0xBE#8, d] s ((sub8 s.main.a (s.peek (s.eaIy d)) false s.main.f).2)
      (pastDrawn s 3 19 [readOf s (s.eaIy d)]) ∧
    flagged .cpIyh [0xFD#8, 0xBC#8] s ((sub8 s.main.a s.iyh false s.main.f).2) (pastDrawn s 2 8 []) ∧
    flagged .cpIyl [0xFD#8, 0xBD#8] s ((sub8 s.main.a s.iyl false s.main.f).2) (pastDrawn s 2 8 [])

/-- AND s, XOR s and OR s in all nine forms: A takes the bitwise result, with the flags of the logical
operations, nothing else changes (R235, R236, R237). -/
def Obligations.LogicForms : Prop :=
  ∀ (s : State) (r : Reg8) (n d : Byte),
    flagged (.andR r) [0xA0#8 ||| r.code] s (logicFlags (s.main.a &&& (s.getR8 r)) true s.main.f)
      { pastDrawn s 1 4 [] with main := { s.main with a := s.main.a &&& (s.getR8 r) } } ∧
    flagged (.andN n) [0xE6#8, n] s (logicFlags (s.main.a &&& n) true s.main.f)
      { pastDrawn s 2 7 [] with main := { s.main with a := s.main.a &&& n } } ∧
    flagged .andIndHl [0xA6#8] s (logicFlags (s.main.a &&& (s.peek s.main.hl)) true s.main.f)
      { pastDrawn s 1 7 [readOf s s.main.hl] with
        main := { s.main with a := s.main.a &&& (s.peek s.main.hl) } } ∧
    flagged (.andIdxIx d) [0xDD#8, 0xA6#8, d] s
      (logicFlags (s.main.a &&& (s.peek (s.eaIx d))) true s.main.f)
      { pastDrawn s 3 19 [readOf s (s.eaIx d)] with
        main := { s.main with a := s.main.a &&& (s.peek (s.eaIx d)) } } ∧
    flagged .andIxh [0xDD#8, 0xA4#8] s (logicFlags (s.main.a &&& s.ixh) true s.main.f)
      { pastDrawn s 2 8 [] with main := { s.main with a := s.main.a &&& s.ixh } } ∧
    flagged .andIxl [0xDD#8, 0xA5#8] s (logicFlags (s.main.a &&& s.ixl) true s.main.f)
      { pastDrawn s 2 8 [] with main := { s.main with a := s.main.a &&& s.ixl } } ∧
    flagged (.andIdxIy d) [0xFD#8, 0xA6#8, d] s
      (logicFlags (s.main.a &&& (s.peek (s.eaIy d))) true s.main.f)
      { pastDrawn s 3 19 [readOf s (s.eaIy d)] with
        main := { s.main with a := s.main.a &&& (s.peek (s.eaIy d)) } } ∧
    flagged .andIyh [0xFD#8, 0xA4#8] s (logicFlags (s.main.a &&& s.iyh) true s.main.f)
      { pastDrawn s 2 8 [] with main := { s.main with a := s.main.a &&& s.iyh } } ∧
    flagged .andIyl [0xFD#8, 0xA5#8] s (logicFlags (s.main.a &&& s.iyl) true s.main.f)
      { pastDrawn s 2 8 [] with main := { s.main with a := s.main.a &&& s.iyl } } ∧
    flagged (.xorR r) [0xA8#8 ||| r.code] s (logicFlags (s.main.a ^^^ (s.getR8 r)) false s.main.f)
      { pastDrawn s 1 4 [] with main := { s.main with a := s.main.a ^^^ (s.getR8 r) } } ∧
    flagged (.xorN n) [0xEE#8, n] s (logicFlags (s.main.a ^^^ n) false s.main.f)
      { pastDrawn s 2 7 [] with main := { s.main with a := s.main.a ^^^ n } } ∧
    flagged .xorIndHl [0xAE#8] s (logicFlags (s.main.a ^^^ (s.peek s.main.hl)) false s.main.f)
      { pastDrawn s 1 7 [readOf s s.main.hl] with
        main := { s.main with a := s.main.a ^^^ (s.peek s.main.hl) } } ∧
    flagged (.xorIdxIx d) [0xDD#8, 0xAE#8, d] s
      (logicFlags (s.main.a ^^^ (s.peek (s.eaIx d))) false s.main.f)
      { pastDrawn s 3 19 [readOf s (s.eaIx d)] with
        main := { s.main with a := s.main.a ^^^ (s.peek (s.eaIx d)) } } ∧
    flagged .xorIxh [0xDD#8, 0xAC#8] s (logicFlags (s.main.a ^^^ s.ixh) false s.main.f)
      { pastDrawn s 2 8 [] with main := { s.main with a := s.main.a ^^^ s.ixh } } ∧
    flagged .xorIxl [0xDD#8, 0xAD#8] s (logicFlags (s.main.a ^^^ s.ixl) false s.main.f)
      { pastDrawn s 2 8 [] with main := { s.main with a := s.main.a ^^^ s.ixl } } ∧
    flagged (.xorIdxIy d) [0xFD#8, 0xAE#8, d] s
      (logicFlags (s.main.a ^^^ (s.peek (s.eaIy d))) false s.main.f)
      { pastDrawn s 3 19 [readOf s (s.eaIy d)] with
        main := { s.main with a := s.main.a ^^^ (s.peek (s.eaIy d)) } } ∧
    flagged .xorIyh [0xFD#8, 0xAC#8] s (logicFlags (s.main.a ^^^ s.iyh) false s.main.f)
      { pastDrawn s 2 8 [] with main := { s.main with a := s.main.a ^^^ s.iyh } } ∧
    flagged .xorIyl [0xFD#8, 0xAD#8] s (logicFlags (s.main.a ^^^ s.iyl) false s.main.f)
      { pastDrawn s 2 8 [] with main := { s.main with a := s.main.a ^^^ s.iyl } } ∧
    flagged (.orR r) [0xB0#8 ||| r.code] s (logicFlags (s.main.a ||| (s.getR8 r)) false s.main.f)
      { pastDrawn s 1 4 [] with main := { s.main with a := s.main.a ||| (s.getR8 r) } } ∧
    flagged (.orN n) [0xF6#8, n] s (logicFlags (s.main.a ||| n) false s.main.f)
      { pastDrawn s 2 7 [] with main := { s.main with a := s.main.a ||| n } } ∧
    flagged .orIndHl [0xB6#8] s (logicFlags (s.main.a ||| (s.peek s.main.hl)) false s.main.f)
      { pastDrawn s 1 7 [readOf s s.main.hl] with
        main := { s.main with a := s.main.a ||| (s.peek s.main.hl) } } ∧
    flagged (.orIdxIx d) [0xDD#8, 0xB6#8, d] s
      (logicFlags (s.main.a ||| (s.peek (s.eaIx d))) false s.main.f)
      { pastDrawn s 3 19 [readOf s (s.eaIx d)] with
        main := { s.main with a := s.main.a ||| (s.peek (s.eaIx d)) } } ∧
    flagged .orIxh [0xDD#8, 0xB4#8] s (logicFlags (s.main.a ||| s.ixh) false s.main.f)
      { pastDrawn s 2 8 [] with main := { s.main with a := s.main.a ||| s.ixh } } ∧
    flagged .orIxl [0xDD#8, 0xB5#8] s (logicFlags (s.main.a ||| s.ixl) false s.main.f)
      { pastDrawn s 2 8 [] with main := { s.main with a := s.main.a ||| s.ixl } } ∧
    flagged (.orIdxIy d) [0xFD#8, 0xB6#8, d] s
      (logicFlags (s.main.a ||| (s.peek (s.eaIy d))) false s.main.f)
      { pastDrawn s 3 19 [readOf s (s.eaIy d)] with
        main := { s.main with a := s.main.a ||| (s.peek (s.eaIy d)) } } ∧
    flagged .orIyh [0xFD#8, 0xB4#8] s (logicFlags (s.main.a ||| s.iyh) false s.main.f)
      { pastDrawn s 2 8 [] with main := { s.main with a := s.main.a ||| s.iyh } } ∧
    flagged .orIyl [0xFD#8, 0xB5#8] s (logicFlags (s.main.a ||| s.iyl) false s.main.f)
      { pastDrawn s 2 8 [] with main := { s.main with a := s.main.a ||| s.iyl } } ∧
    (∀ (res : Byte) (h : Bool), logicFlags res h s.main.f =
      { s.main.f with
        s := res.getLsbD 7, z := decide (res = 0#8), h := h, pv := parity8 res, n := false, c :=
          false })

/-- The 8-bit INC and DEC in all forms: the result where it came from, the flags of inc8 and dec8, carry
unchanged, nothing else changed (R239, R240, R241, R242, R243, R244, R245, R246). -/
def Obligations.IncDecForms : Prop :=
  ∀ (s : State) (r : Reg8) (d : Byte),
    flagged (.incR r) [0x04#8 ||| (r.code <<< 3)] s ((inc8 (s.getR8 r) s.main.f).2)
      ((pastDrawn s 1 4 []).setR8 r (inc8 (s.getR8 r) s.main.f).1) ∧
    flagged .incIxh [0xDD#8, 0x24#8] s ((inc8 s.ixh s.main.f).2)
      { pastDrawn s 2 8 [] with ix := pair (inc8 s.ixh s.main.f).1 (lo s.ix) } ∧
    flagged .incIxl [0xDD#8, 0x2C#8] s ((inc8 s.ixl s.main.f).2)
      { pastDrawn s 2 8 [] with ix := pair (hi s.ix) (inc8 s.ixl s.main.f).1 } ∧
    flagged .incIyh [0xFD#8, 0x24#8] s ((inc8 s.iyh s.main.f).2)
      { pastDrawn s 2 8 [] with iy := pair (inc8 s.iyh s.main.f).1 (lo s.iy) } ∧
    flagged .incIyl [0xFD#8, 0x2C#8] s ((inc8 s.iyl s.main.f).2)
      { pastDrawn s 2 8 [] with iy := pair (hi s.iy) (inc8 s.iyl s.main.f).1 } ∧
    flaggedStored .incIndHl [0x34#8] s ((inc8 (s.peek s.main.hl) s.main.f).2)
      (pastDrawn s 1 11 [readOf s s.main.hl, .memWrite s.main.hl (inc8 (s.peek s.main.hl) s.main.f).1])
      s.main.hl ((inc8 (s.peek s.main.hl) s.main.f).1) ∧
    flaggedStored (.incIdxIx d) [0xDD#8, 0x34#8, d] s ((inc8 (s.peek (s.eaIx d)) s.main.f).2)
      (pastDrawn s 3 23
        [readOf s (s.eaIx d), .memWrite (s.eaIx d) (inc8 (s.peek (s.eaIx d)) s.main.f).1]) (s.eaIx d)
      ((inc8 (s.peek (s.eaIx d)) s.main.f).1) ∧
    flaggedStored (.incIdxIy d) [0xFD#8, 0x34#8, d] s ((inc8 (s.peek (s.eaIy d)) s.main.f).2)
      (pastDrawn s 3 23
        [readOf s (s.eaIy d), .memWrite (s.eaIy d) (inc8 (s.peek (s.eaIy d)) s.main.f).1]) (s.eaIy d)
      ((inc8 (s.peek (s.eaIy d)) s.main.f).1) ∧
    flagged (.decR r) [0x05#8 ||| (r.code <<< 3)] s ((dec8 (s.getR8 r) s.main.f).2)
      ((pastDrawn s 1 4 []).setR8 r (dec8 (s.getR8 r) s.main.f).1) ∧
    flagged .decIxh [0xDD#8, 0x25#8] s ((dec8 s.ixh s.main.f).2)
      { pastDrawn s 2 8 [] with ix := pair (dec8 s.ixh s.main.f).1 (lo s.ix) } ∧
    flagged .decIxl [0xDD#8, 0x2D#8] s ((dec8 s.ixl s.main.f).2)
      { pastDrawn s 2 8 [] with ix := pair (hi s.ix) (dec8 s.ixl s.main.f).1 } ∧
    flagged .decIyh [0xFD#8, 0x25#8] s ((dec8 s.iyh s.main.f).2)
      { pastDrawn s 2 8 [] with iy := pair (dec8 s.iyh s.main.f).1 (lo s.iy) } ∧
    flagged .decIyl [0xFD#8, 0x2D#8] s ((dec8 s.iyl s.main.f).2)
      { pastDrawn s 2 8 [] with iy := pair (hi s.iy) (dec8 s.iyl s.main.f).1 } ∧
    flaggedStored .decIndHl [0x35#8] s ((dec8 (s.peek s.main.hl) s.main.f).2)
      (pastDrawn s 1 11 [readOf s s.main.hl, .memWrite s.main.hl (dec8 (s.peek s.main.hl) s.main.f).1])
      s.main.hl ((dec8 (s.peek s.main.hl) s.main.f).1) ∧
    flaggedStored (.decIdxIx d) [0xDD#8, 0x35#8, d] s ((dec8 (s.peek (s.eaIx d)) s.main.f).2)
      (pastDrawn s 3 23
        [readOf s (s.eaIx d), .memWrite (s.eaIx d) (dec8 (s.peek (s.eaIx d)) s.main.f).1]) (s.eaIx d)
      ((dec8 (s.peek (s.eaIx d)) s.main.f).1) ∧
    flaggedStored (.decIdxIy d) [0xFD#8, 0x35#8, d] s ((dec8 (s.peek (s.eaIy d)) s.main.f).2)
      (pastDrawn s 3 23
        [readOf s (s.eaIy d), .memWrite (s.eaIy d) (dec8 (s.peek (s.eaIy d)) s.main.f).1]) (s.eaIy d)
      ((dec8 (s.peek (s.eaIy d)) s.main.f).1)

/-- ADD HL,ss; ADC HL,ss; SBC HL,ss; ADD IX,pp; ADD IY,rr; INC and DEC of pairs and index registers (R251,
R252, R253, R254, R255, R256, R257, R258, R259). -/
def Obligations.Arithmetic16Forms : Prop :=
  ∀ (s : State) (p : PairDd) (pp : PairPp) (rr : PairRr),
    flagged (.addHlSs p) [0x09#8 ||| (p.code <<< 4)] s ((add16 s.main.hl (s.getDd p) s.main.f).2)
      { pastDrawn s 1 11 [] with
        main := { s.main with
                  h := hi (add16 s.main.hl (s.getDd p) s.main.f).1,
                  l := lo (add16 s.main.hl (s.getDd p) s.main.f).1 } } ∧
    flagged (.adcHlSs p) [0xED#8, 0x4A#8 ||| (p.code <<< 4)] s
      ((adc16 s.main.hl (s.getDd p) s.main.f).2)
      { pastDrawn s 2 15 [] with
        main := { s.main with
                  h := hi (adc16 s.main.hl (s.getDd p) s.main.f).1,
                  l := lo (adc16 s.main.hl (s.getDd p) s.main.f).1 } } ∧
    flagged (.sbcHlSs p) [0xED#8, 0x42#8 ||| (p.code <<< 4)] s
      ((sbc16 s.main.hl (s.getDd p) s.main.f).2)
      { pastDrawn s 2 15 [] with
        main := { s.main with
                  h := hi (sbc16 s.main.hl (s.getDd p) s.main.f).1,
                  l := lo (sbc16 s.main.hl (s.getDd p) s.main.f).1 } } ∧
    flagged (.addIxPp pp) [0xDD#8, 0x09#8 ||| (pp.code <<< 4)] s ((add16 s.ix (s.getPp pp) s.main.f).2)
      { pastDrawn s 2 15 [] with ix := (add16 s.ix (s.getPp pp) s.main.f).1 } ∧
    flagged (.addIyRr rr) [0xFD#8, 0x09#8 ||| (rr.code <<< 4)] s ((add16 s.iy (s.getRr rr) s.main.f).2)
      { pastDrawn s 2 15 [] with iy := (add16 s.iy (s.getRr rr) s.main.f).1 } ∧
    exact (.incSs p) [0x03#8 ||| (p.code <<< 4)] s ((past s 1 6 []).setDd p (s.getDd p + 1)) ∧
    exact (.decSs p) [0x0B#8 ||| (p.code <<< 4)] s ((past s 1 6 []).setDd p (s.getDd p - 1)) ∧
    exact .incIx [0xDD#8, 0x23#8] s { past s 2 10 [] with ix := s.ix + 1 } ∧
    exact .decIx [0xDD#8, 0x2B#8] s { past s 2 10 [] with ix := s.ix - 1 } ∧
    exact .incIy [0xFD#8, 0x23#8] s { past s 2 10 [] with iy := s.iy + 1 } ∧
    exact .decIy [0xFD#8, 0x2B#8] s { past s 2 10 [] with iy := s.iy - 1 }

/-- RLCA, RLA, RRCA, RRA (R261 to R264) and the register forms of RLC to SRL (R265 to R273, with the flags
of R124) (R124, R125, R261, R262, R263, R264, R265, 46_rotate_shift.md). -/
def Obligations.RotateRegisterForms : Prop :=
  ∀ (s : State) (r : Reg8),
    flagged .rlca [0x07#8] s ((rotA .rlc s.main.a s.main.f).2)
      { pastDrawn s 1 4 [] with main := { s.main with a := (rotA .rlc s.main.a s.main.f).1 } } ∧
    flagged .rla [0x17#8] s ((rotA .rl s.main.a s.main.f).2)
      { pastDrawn s 1 4 [] with main := { s.main with a := (rotA .rl s.main.a s.main.f).1 } } ∧
    flagged .rrca [0x0F#8] s ((rotA .rrc s.main.a s.main.f).2)
      { pastDrawn s 1 4 [] with main := { s.main with a := (rotA .rrc s.main.a s.main.f).1 } } ∧
    flagged .rra [0x1F#8] s ((rotA .rr s.main.a s.main.f).2)
      { pastDrawn s 1 4 [] with main := { s.main with a := (rotA .rr s.main.a s.main.f).1 } } ∧
    flagged (.rlcR r) [0xCB#8, 0x00#8 ||| r.code] s ((rot8 .rlc (s.getR8 r) s.main.f).2)
      ((pastDrawn s 2 8 []).setR8 r (rot8 .rlc (s.getR8 r) s.main.f).1) ∧
    flagged (.rrcR r) [0xCB#8, 0x08#8 ||| r.code] s ((rot8 .rrc (s.getR8 r) s.main.f).2)
      ((pastDrawn s 2 8 []).setR8 r (rot8 .rrc (s.getR8 r) s.main.f).1) ∧
    flagged (.rlR r) [0xCB#8, 0x10#8 ||| r.code] s ((rot8 .rl (s.getR8 r) s.main.f).2)
      ((pastDrawn s 2 8 []).setR8 r (rot8 .rl (s.getR8 r) s.main.f).1) ∧
    flagged (.rrR r) [0xCB#8, 0x18#8 ||| r.code] s ((rot8 .rr (s.getR8 r) s.main.f).2)
      ((pastDrawn s 2 8 []).setR8 r (rot8 .rr (s.getR8 r) s.main.f).1) ∧
    flagged (.slaR r) [0xCB#8, 0x20#8 ||| r.code] s ((rot8 .sla (s.getR8 r) s.main.f).2)
      ((pastDrawn s 2 8 []).setR8 r (rot8 .sla (s.getR8 r) s.main.f).1) ∧
    flagged (.sraR r) [0xCB#8, 0x28#8 ||| r.code] s ((rot8 .sra (s.getR8 r) s.main.f).2)
      ((pastDrawn s 2 8 []).setR8 r (rot8 .sra (s.getR8 r) s.main.f).1) ∧
    flagged (.sllR r) [0xCB#8, 0x30#8 ||| r.code] s ((rot8 .sll (s.getR8 r) s.main.f).2)
      ((pastDrawn s 2 8 []).setR8 r (rot8 .sll (s.getR8 r) s.main.f).1) ∧
    flagged (.srlR r) [0xCB#8, 0x38#8 ||| r.code] s ((rot8 .srl (s.getR8 r) s.main.f).2)
      ((pastDrawn s 2 8 []).setR8 r (rot8 .srl (s.getR8 r) s.main.f).1)

/-- The rotates and shifts of a memory byte, with the undocumented forms that also copy the result into a
register, and RLD and RRD (R265, R266, R267, R268, R269, R270, R271, R272, R273, R274, R275). -/
def Obligations.RotateMemoryForms : Prop :=
  ∀ (s : State) (r : Reg8) (d : Byte),
    flaggedStored .rlcIndHl [0xCB#8, 0x06#8] s ((rot8 .rlc (s.peek s.main.hl) s.main.f).2)
      (pastDrawn s 2 15
        [readOf s s.main.hl, .memWrite s.main.hl (rot8 .rlc (s.peek s.main.hl) s.main.f).1]) s.main.hl
      ((rot8 .rlc (s.peek s.main.hl) s.main.f).1) ∧
    flaggedStored (.rlcIdxIx d) [0xDD#8, 0xCB#8, d, 0x06#8] s
      ((rot8 .rlc (s.peek (s.eaIx d)) s.main.f).2)
      (pastDrawn s 4 23
        [readOf s (s.eaIx d), .memWrite (s.eaIx d) (rot8 .rlc (s.peek (s.eaIx d)) s.main.f).1])
      (s.eaIx d) ((rot8 .rlc (s.peek (s.eaIx d)) s.main.f).1) ∧
    flaggedStored (.rlcIdxIxR d r) [0xDD#8, 0xCB#8, d, 0x00#8 ||| r.code] s
      ((rot8 .rlc (s.peek (s.eaIx d)) s.main.f).2)
      ((pastDrawn s 4 23
         [readOf s (s.eaIx d), .memWrite (s.eaIx d) (rot8 .rlc (s.peek (s.eaIx d)) s.main.f).1]).setR8 r
        (rot8 .rlc (s.peek (s.eaIx d)) s.main.f).1) (s.eaIx d)
      ((rot8 .rlc (s.peek (s.eaIx d)) s.main.f).1) ∧
    flaggedStored (.rlcIdxIy d) [0xFD#8, 0xCB#8, d, 0x06#8] s
      ((rot8 .rlc (s.peek (s.eaIy d)) s.main.f).2)
      (pastDrawn s 4 23
        [readOf s (s.eaIy d), .memWrite (s.eaIy d) (rot8 .rlc (s.peek (s.eaIy d)) s.main.f).1])
      (s.eaIy d) ((rot8 .rlc (s.peek (s.eaIy d)) s.main.f).1) ∧
    flaggedStored (.rlcIdxIyR d r) [0xFD#8, 0xCB#8, d, 0x00#8 ||| r.code] s
      ((rot8 .rlc (s.peek (s.eaIy d)) s.main.f).2)
      ((pastDrawn s 4 23
         [readOf s (s.eaIy d), .memWrite (s.eaIy d) (rot8 .rlc (s.peek (s.eaIy d)) s.main.f).1]).setR8 r
        (rot8 .rlc (s.peek (s.eaIy d)) s.main.f).1) (s.eaIy d)
      ((rot8 .rlc (s.peek (s.eaIy d)) s.main.f).1) ∧
    flaggedStored .rrcIndHl [0xCB#8, 0x0E#8] s ((rot8 .rrc (s.peek s.main.hl) s.main.f).2)
      (pastDrawn s 2 15
        [readOf s s.main.hl, .memWrite s.main.hl (rot8 .rrc (s.peek s.main.hl) s.main.f).1]) s.main.hl
      ((rot8 .rrc (s.peek s.main.hl) s.main.f).1) ∧
    flaggedStored (.rrcIdxIx d) [0xDD#8, 0xCB#8, d, 0x0E#8] s
      ((rot8 .rrc (s.peek (s.eaIx d)) s.main.f).2)
      (pastDrawn s 4 23
        [readOf s (s.eaIx d), .memWrite (s.eaIx d) (rot8 .rrc (s.peek (s.eaIx d)) s.main.f).1])
      (s.eaIx d) ((rot8 .rrc (s.peek (s.eaIx d)) s.main.f).1) ∧
    flaggedStored (.rrcIdxIxR d r) [0xDD#8, 0xCB#8, d, 0x08#8 ||| r.code] s
      ((rot8 .rrc (s.peek (s.eaIx d)) s.main.f).2)
      ((pastDrawn s 4 23
         [readOf s (s.eaIx d), .memWrite (s.eaIx d) (rot8 .rrc (s.peek (s.eaIx d)) s.main.f).1]).setR8 r
        (rot8 .rrc (s.peek (s.eaIx d)) s.main.f).1) (s.eaIx d)
      ((rot8 .rrc (s.peek (s.eaIx d)) s.main.f).1) ∧
    flaggedStored (.rrcIdxIy d) [0xFD#8, 0xCB#8, d, 0x0E#8] s
      ((rot8 .rrc (s.peek (s.eaIy d)) s.main.f).2)
      (pastDrawn s 4 23
        [readOf s (s.eaIy d), .memWrite (s.eaIy d) (rot8 .rrc (s.peek (s.eaIy d)) s.main.f).1])
      (s.eaIy d) ((rot8 .rrc (s.peek (s.eaIy d)) s.main.f).1) ∧
    flaggedStored (.rrcIdxIyR d r) [0xFD#8, 0xCB#8, d, 0x08#8 ||| r.code] s
      ((rot8 .rrc (s.peek (s.eaIy d)) s.main.f).2)
      ((pastDrawn s 4 23
         [readOf s (s.eaIy d), .memWrite (s.eaIy d) (rot8 .rrc (s.peek (s.eaIy d)) s.main.f).1]).setR8 r
        (rot8 .rrc (s.peek (s.eaIy d)) s.main.f).1) (s.eaIy d)
      ((rot8 .rrc (s.peek (s.eaIy d)) s.main.f).1) ∧
    flaggedStored .rlIndHl [0xCB#8, 0x16#8] s ((rot8 .rl (s.peek s.main.hl) s.main.f).2)
      (pastDrawn s 2 15
        [readOf s s.main.hl, .memWrite s.main.hl (rot8 .rl (s.peek s.main.hl) s.main.f).1]) s.main.hl
      ((rot8 .rl (s.peek s.main.hl) s.main.f).1) ∧
    flaggedStored (.rlIdxIx d) [0xDD#8, 0xCB#8, d, 0x16#8] s ((rot8 .rl (s.peek (s.eaIx d)) s.main.f).2)
      (pastDrawn s 4 23
        [readOf s (s.eaIx d), .memWrite (s.eaIx d) (rot8 .rl (s.peek (s.eaIx d)) s.main.f).1])
      (s.eaIx d) ((rot8 .rl (s.peek (s.eaIx d)) s.main.f).1) ∧
    flaggedStored (.rlIdxIxR d r) [0xDD#8, 0xCB#8, d, 0x10#8 ||| r.code] s
      ((rot8 .rl (s.peek (s.eaIx d)) s.main.f).2)
      ((pastDrawn s 4 23
         [readOf s (s.eaIx d), .memWrite (s.eaIx d) (rot8 .rl (s.peek (s.eaIx d)) s.main.f).1]).setR8 r
        (rot8 .rl (s.peek (s.eaIx d)) s.main.f).1) (s.eaIx d)
      ((rot8 .rl (s.peek (s.eaIx d)) s.main.f).1) ∧
    flaggedStored (.rlIdxIy d) [0xFD#8, 0xCB#8, d, 0x16#8] s ((rot8 .rl (s.peek (s.eaIy d)) s.main.f).2)
      (pastDrawn s 4 23
        [readOf s (s.eaIy d), .memWrite (s.eaIy d) (rot8 .rl (s.peek (s.eaIy d)) s.main.f).1])
      (s.eaIy d) ((rot8 .rl (s.peek (s.eaIy d)) s.main.f).1) ∧
    flaggedStored (.rlIdxIyR d r) [0xFD#8, 0xCB#8, d, 0x10#8 ||| r.code] s
      ((rot8 .rl (s.peek (s.eaIy d)) s.main.f).2)
      ((pastDrawn s 4 23
         [readOf s (s.eaIy d), .memWrite (s.eaIy d) (rot8 .rl (s.peek (s.eaIy d)) s.main.f).1]).setR8 r
        (rot8 .rl (s.peek (s.eaIy d)) s.main.f).1) (s.eaIy d)
      ((rot8 .rl (s.peek (s.eaIy d)) s.main.f).1) ∧
    flaggedStored .rrIndHl [0xCB#8, 0x1E#8] s ((rot8 .rr (s.peek s.main.hl) s.main.f).2)
      (pastDrawn s 2 15
        [readOf s s.main.hl, .memWrite s.main.hl (rot8 .rr (s.peek s.main.hl) s.main.f).1]) s.main.hl
      ((rot8 .rr (s.peek s.main.hl) s.main.f).1) ∧
    flaggedStored (.rrIdxIx d) [0xDD#8, 0xCB#8, d, 0x1E#8] s ((rot8 .rr (s.peek (s.eaIx d)) s.main.f).2)
      (pastDrawn s 4 23
        [readOf s (s.eaIx d), .memWrite (s.eaIx d) (rot8 .rr (s.peek (s.eaIx d)) s.main.f).1])
      (s.eaIx d) ((rot8 .rr (s.peek (s.eaIx d)) s.main.f).1) ∧
    flaggedStored (.rrIdxIxR d r) [0xDD#8, 0xCB#8, d, 0x18#8 ||| r.code] s
      ((rot8 .rr (s.peek (s.eaIx d)) s.main.f).2)
      ((pastDrawn s 4 23
         [readOf s (s.eaIx d), .memWrite (s.eaIx d) (rot8 .rr (s.peek (s.eaIx d)) s.main.f).1]).setR8 r
        (rot8 .rr (s.peek (s.eaIx d)) s.main.f).1) (s.eaIx d)
      ((rot8 .rr (s.peek (s.eaIx d)) s.main.f).1) ∧
    flaggedStored (.rrIdxIy d) [0xFD#8, 0xCB#8, d, 0x1E#8] s ((rot8 .rr (s.peek (s.eaIy d)) s.main.f).2)
      (pastDrawn s 4 23
        [readOf s (s.eaIy d), .memWrite (s.eaIy d) (rot8 .rr (s.peek (s.eaIy d)) s.main.f).1])
      (s.eaIy d) ((rot8 .rr (s.peek (s.eaIy d)) s.main.f).1) ∧
    flaggedStored (.rrIdxIyR d r) [0xFD#8, 0xCB#8, d, 0x18#8 ||| r.code] s
      ((rot8 .rr (s.peek (s.eaIy d)) s.main.f).2)
      ((pastDrawn s 4 23
         [readOf s (s.eaIy d), .memWrite (s.eaIy d) (rot8 .rr (s.peek (s.eaIy d)) s.main.f).1]).setR8 r
        (rot8 .rr (s.peek (s.eaIy d)) s.main.f).1) (s.eaIy d)
      ((rot8 .rr (s.peek (s.eaIy d)) s.main.f).1) ∧
    flaggedStored .slaIndHl [0xCB#8, 0x26#8] s ((rot8 .sla (s.peek s.main.hl) s.main.f).2)
      (pastDrawn s 2 15
        [readOf s s.main.hl, .memWrite s.main.hl (rot8 .sla (s.peek s.main.hl) s.main.f).1]) s.main.hl
      ((rot8 .sla (s.peek s.main.hl) s.main.f).1) ∧
    flaggedStored (.slaIdxIx d) [0xDD#8, 0xCB#8, d, 0x26#8] s
      ((rot8 .sla (s.peek (s.eaIx d)) s.main.f).2)
      (pastDrawn s 4 23
        [readOf s (s.eaIx d), .memWrite (s.eaIx d) (rot8 .sla (s.peek (s.eaIx d)) s.main.f).1])
      (s.eaIx d) ((rot8 .sla (s.peek (s.eaIx d)) s.main.f).1) ∧
    flaggedStored (.slaIdxIxR d r) [0xDD#8, 0xCB#8, d, 0x20#8 ||| r.code] s
      ((rot8 .sla (s.peek (s.eaIx d)) s.main.f).2)
      ((pastDrawn s 4 23
         [readOf s (s.eaIx d), .memWrite (s.eaIx d) (rot8 .sla (s.peek (s.eaIx d)) s.main.f).1]).setR8 r
        (rot8 .sla (s.peek (s.eaIx d)) s.main.f).1) (s.eaIx d)
      ((rot8 .sla (s.peek (s.eaIx d)) s.main.f).1) ∧
    flaggedStored (.slaIdxIy d) [0xFD#8, 0xCB#8, d, 0x26#8] s
      ((rot8 .sla (s.peek (s.eaIy d)) s.main.f).2)
      (pastDrawn s 4 23
        [readOf s (s.eaIy d), .memWrite (s.eaIy d) (rot8 .sla (s.peek (s.eaIy d)) s.main.f).1])
      (s.eaIy d) ((rot8 .sla (s.peek (s.eaIy d)) s.main.f).1) ∧
    flaggedStored (.slaIdxIyR d r) [0xFD#8, 0xCB#8, d, 0x20#8 ||| r.code] s
      ((rot8 .sla (s.peek (s.eaIy d)) s.main.f).2)
      ((pastDrawn s 4 23
         [readOf s (s.eaIy d), .memWrite (s.eaIy d) (rot8 .sla (s.peek (s.eaIy d)) s.main.f).1]).setR8 r
        (rot8 .sla (s.peek (s.eaIy d)) s.main.f).1) (s.eaIy d)
      ((rot8 .sla (s.peek (s.eaIy d)) s.main.f).1) ∧
    flaggedStored .sraIndHl [0xCB#8, 0x2E#8] s ((rot8 .sra (s.peek s.main.hl) s.main.f).2)
      (pastDrawn s 2 15
        [readOf s s.main.hl, .memWrite s.main.hl (rot8 .sra (s.peek s.main.hl) s.main.f).1]) s.main.hl
      ((rot8 .sra (s.peek s.main.hl) s.main.f).1) ∧
    flaggedStored (.sraIdxIx d) [0xDD#8, 0xCB#8, d, 0x2E#8] s
      ((rot8 .sra (s.peek (s.eaIx d)) s.main.f).2)
      (pastDrawn s 4 23
        [readOf s (s.eaIx d), .memWrite (s.eaIx d) (rot8 .sra (s.peek (s.eaIx d)) s.main.f).1])
      (s.eaIx d) ((rot8 .sra (s.peek (s.eaIx d)) s.main.f).1) ∧
    flaggedStored (.sraIdxIxR d r) [0xDD#8, 0xCB#8, d, 0x28#8 ||| r.code] s
      ((rot8 .sra (s.peek (s.eaIx d)) s.main.f).2)
      ((pastDrawn s 4 23
         [readOf s (s.eaIx d), .memWrite (s.eaIx d) (rot8 .sra (s.peek (s.eaIx d)) s.main.f).1]).setR8 r
        (rot8 .sra (s.peek (s.eaIx d)) s.main.f).1) (s.eaIx d)
      ((rot8 .sra (s.peek (s.eaIx d)) s.main.f).1) ∧
    flaggedStored (.sraIdxIy d) [0xFD#8, 0xCB#8, d, 0x2E#8] s
      ((rot8 .sra (s.peek (s.eaIy d)) s.main.f).2)
      (pastDrawn s 4 23
        [readOf s (s.eaIy d), .memWrite (s.eaIy d) (rot8 .sra (s.peek (s.eaIy d)) s.main.f).1])
      (s.eaIy d) ((rot8 .sra (s.peek (s.eaIy d)) s.main.f).1) ∧
    flaggedStored (.sraIdxIyR d r) [0xFD#8, 0xCB#8, d, 0x28#8 ||| r.code] s
      ((rot8 .sra (s.peek (s.eaIy d)) s.main.f).2)
      ((pastDrawn s 4 23
         [readOf s (s.eaIy d), .memWrite (s.eaIy d) (rot8 .sra (s.peek (s.eaIy d)) s.main.f).1]).setR8 r
        (rot8 .sra (s.peek (s.eaIy d)) s.main.f).1) (s.eaIy d)
      ((rot8 .sra (s.peek (s.eaIy d)) s.main.f).1) ∧
    flaggedStored .sllIndHl [0xCB#8, 0x36#8] s ((rot8 .sll (s.peek s.main.hl) s.main.f).2)
      (pastDrawn s 2 15
        [readOf s s.main.hl, .memWrite s.main.hl (rot8 .sll (s.peek s.main.hl) s.main.f).1]) s.main.hl
      ((rot8 .sll (s.peek s.main.hl) s.main.f).1) ∧
    flaggedStored (.sllIdxIx d) [0xDD#8, 0xCB#8, d, 0x36#8] s
      ((rot8 .sll (s.peek (s.eaIx d)) s.main.f).2)
      (pastDrawn s 4 23
        [readOf s (s.eaIx d), .memWrite (s.eaIx d) (rot8 .sll (s.peek (s.eaIx d)) s.main.f).1])
      (s.eaIx d) ((rot8 .sll (s.peek (s.eaIx d)) s.main.f).1) ∧
    flaggedStored (.sllIdxIxR d r) [0xDD#8, 0xCB#8, d, 0x30#8 ||| r.code] s
      ((rot8 .sll (s.peek (s.eaIx d)) s.main.f).2)
      ((pastDrawn s 4 23
         [readOf s (s.eaIx d), .memWrite (s.eaIx d) (rot8 .sll (s.peek (s.eaIx d)) s.main.f).1]).setR8 r
        (rot8 .sll (s.peek (s.eaIx d)) s.main.f).1) (s.eaIx d)
      ((rot8 .sll (s.peek (s.eaIx d)) s.main.f).1) ∧
    flaggedStored (.sllIdxIy d) [0xFD#8, 0xCB#8, d, 0x36#8] s
      ((rot8 .sll (s.peek (s.eaIy d)) s.main.f).2)
      (pastDrawn s 4 23
        [readOf s (s.eaIy d), .memWrite (s.eaIy d) (rot8 .sll (s.peek (s.eaIy d)) s.main.f).1])
      (s.eaIy d) ((rot8 .sll (s.peek (s.eaIy d)) s.main.f).1) ∧
    flaggedStored (.sllIdxIyR d r) [0xFD#8, 0xCB#8, d, 0x30#8 ||| r.code] s
      ((rot8 .sll (s.peek (s.eaIy d)) s.main.f).2)
      ((pastDrawn s 4 23
         [readOf s (s.eaIy d), .memWrite (s.eaIy d) (rot8 .sll (s.peek (s.eaIy d)) s.main.f).1]).setR8 r
        (rot8 .sll (s.peek (s.eaIy d)) s.main.f).1) (s.eaIy d)
      ((rot8 .sll (s.peek (s.eaIy d)) s.main.f).1) ∧
    flaggedStored .srlIndHl [0xCB#8, 0x3E#8] s ((rot8 .srl (s.peek s.main.hl) s.main.f).2)
      (pastDrawn s 2 15
        [readOf s s.main.hl, .memWrite s.main.hl (rot8 .srl (s.peek s.main.hl) s.main.f).1]) s.main.hl
      ((rot8 .srl (s.peek s.main.hl) s.main.f).1) ∧
    flaggedStored (.srlIdxIx d) [0xDD#8, 0xCB#8, d, 0x3E#8] s
      ((rot8 .srl (s.peek (s.eaIx d)) s.main.f).2)
      (pastDrawn s 4 23
        [readOf s (s.eaIx d), .memWrite (s.eaIx d) (rot8 .srl (s.peek (s.eaIx d)) s.main.f).1])
      (s.eaIx d) ((rot8 .srl (s.peek (s.eaIx d)) s.main.f).1) ∧
    flaggedStored (.srlIdxIxR d r) [0xDD#8, 0xCB#8, d, 0x38#8 ||| r.code] s
      ((rot8 .srl (s.peek (s.eaIx d)) s.main.f).2)
      ((pastDrawn s 4 23
         [readOf s (s.eaIx d), .memWrite (s.eaIx d) (rot8 .srl (s.peek (s.eaIx d)) s.main.f).1]).setR8 r
        (rot8 .srl (s.peek (s.eaIx d)) s.main.f).1) (s.eaIx d)
      ((rot8 .srl (s.peek (s.eaIx d)) s.main.f).1) ∧
    flaggedStored (.srlIdxIy d) [0xFD#8, 0xCB#8, d, 0x3E#8] s
      ((rot8 .srl (s.peek (s.eaIy d)) s.main.f).2)
      (pastDrawn s 4 23
        [readOf s (s.eaIy d), .memWrite (s.eaIy d) (rot8 .srl (s.peek (s.eaIy d)) s.main.f).1])
      (s.eaIy d) ((rot8 .srl (s.peek (s.eaIy d)) s.main.f).1) ∧
    flaggedStored (.srlIdxIyR d r) [0xFD#8, 0xCB#8, d, 0x38#8 ||| r.code] s
      ((rot8 .srl (s.peek (s.eaIy d)) s.main.f).2)
      ((pastDrawn s 4 23
         [readOf s (s.eaIy d), .memWrite (s.eaIy d) (rot8 .srl (s.peek (s.eaIy d)) s.main.f).1]).setR8 r
        (rot8 .srl (s.peek (s.eaIy d)) s.main.f).1) (s.eaIy d)
      ((rot8 .srl (s.peek (s.eaIy d)) s.main.f).1) ∧
    flaggedStored .rld [0xED#8, 0x6F#8] s
      { s.main.f with
        s := (s.main.a &&& 0xF0#8 ||| (s.peek s.main.hl) >>> 4).getLsbD 7,
        z := decide ((s.main.a &&& 0xF0#8 ||| (s.peek s.main.hl) >>> 4) = 0#8), h := false,
        pv := parity8 (s.main.a &&& 0xF0#8 ||| (s.peek s.main.hl) >>> 4), n := false }
      { pastDrawn s 2 18
          [readOf s s.main.hl, .memWrite s.main.hl ((s.peek s.main.hl) <<< 4 ||| s.main.a &&& 0x0F#8)]
          with
        main := { s.main with a := s.main.a &&& 0xF0#8 ||| (s.peek s.main.hl) >>> 4 } } s.main.hl
      ((s.peek s.main.hl) <<< 4 ||| s.main.a &&& 0x0F#8) ∧
    flaggedStored .rrd [0xED#8, 0x67#8] s
      { s.main.f with
        s := (s.main.a &&& 0xF0#8 ||| (s.peek s.main.hl) &&& 0x0F#8).getLsbD 7,
        z := decide ((s.main.a &&& 0xF0#8 ||| (s.peek s.main.hl) &&& 0x0F#8) = 0#8), h := false,
        pv := parity8 (s.main.a &&& 0xF0#8 ||| (s.peek s.main.hl) &&& 0x0F#8), n := false }
      { pastDrawn s 2 18
          [readOf s s.main.hl, .memWrite s.main.hl
            ((s.main.a &&& 0x0F#8) <<< 4 ||| (s.peek s.main.hl) >>> 4)] with
        main := { s.main with a := s.main.a &&& 0xF0#8 ||| (s.peek s.main.hl) &&& 0x0F#8 } } s.main.hl
      ((s.main.a &&& 0x0F#8) <<< 4 ||| (s.peek s.main.hl) >>> 4)

/-- BIT, SET and RES in all forms, the undocumented copy and mirror forms with them (R281, R282, R283,
R284, R285, R286, R287, R288, R289). -/
def Obligations.BitForms : Prop :=
  ∀ (s : State) (b : BitVec 3) (r : Reg8) (d : Byte),
    flagged (.bitBR b r) [0xCB#8, 0x40#8 ||| ((b.zeroExtend 8) <<< 3) ||| r.code] s
      (bittest b (s.getR8 r) s.main.f) (pastDrawn s 2 8 []) ∧
    flagged (.bitBIndHl b) [0xCB#8, 0x46#8 ||| ((b.zeroExtend 8) <<< 3)] s
      (bittest b (s.peek s.main.hl) s.main.f) (pastDrawn s 2 12 [readOf s s.main.hl]) ∧
    flagged (.bitBIdxIx b d) [0xDD#8, 0xCB#8, d, 0x46#8 ||| ((b.zeroExtend 8) <<< 3)] s
      (bittest b (s.peek (s.eaIx d)) s.main.f) (pastDrawn s 4 20 [readOf s (s.eaIx d)]) ∧
    flagged (.bitBIdxIxMirror b d r) [0xDD#8, 0xCB#8, d, 0x40#8 ||| ((b.zeroExtend 8) <<< 3) ||| r.code]
      s (bittest b (s.peek (s.eaIx d)) s.main.f) (pastDrawn s 4 20 [readOf s (s.eaIx d)]) ∧
    flagged (.bitBIdxIy b d) [0xFD#8, 0xCB#8, d, 0x46#8 ||| ((b.zeroExtend 8) <<< 3)] s
      (bittest b (s.peek (s.eaIy d)) s.main.f) (pastDrawn s 4 20 [readOf s (s.eaIy d)]) ∧
    flagged (.bitBIdxIyMirror b d r) [0xFD#8, 0xCB#8, d, 0x40#8 ||| ((b.zeroExtend 8) <<< 3) ||| r.code]
      s (bittest b (s.peek (s.eaIy d)) s.main.f) (pastDrawn s 4 20 [readOf s (s.eaIy d)]) ∧
    exact (.setBR b r) [0xCB#8, 0xC0#8 ||| ((b.zeroExtend 8) <<< 3) ||| r.code] s
      ((past s 2 8 []).setR8 r (setBit8 b (s.getR8 r))) ∧
    stored (.setBIndHl b) [0xCB#8, 0xC6#8 ||| ((b.zeroExtend 8) <<< 3)] s
      (past s 2 15 [readOf s s.main.hl, .memWrite s.main.hl (setBit8 b (s.peek s.main.hl))]) s.main.hl
      (setBit8 b (s.peek s.main.hl)) ∧
    stored (.setBIdxIx b d) [0xDD#8, 0xCB#8, d, 0xC6#8 ||| ((b.zeroExtend 8) <<< 3)] s
      (past s 4 23 [readOf s (s.eaIx d), .memWrite (s.eaIx d) (setBit8 b (s.peek (s.eaIx d)))])
      (s.eaIx d) (setBit8 b (s.peek (s.eaIx d))) ∧
    stored (.setBIdxIxR b d r) [0xDD#8, 0xCB#8, d, 0xC0#8 ||| ((b.zeroExtend 8) <<< 3) ||| r.code] s
      ((past s 4 23 [readOf s (s.eaIx d), .memWrite (s.eaIx d) (setBit8 b (s.peek (s.eaIx d)))]).setR8 r
        (setBit8 b (s.peek (s.eaIx d)))) (s.eaIx d) (setBit8 b (s.peek (s.eaIx d))) ∧
    stored (.setBIdxIy b d) [0xFD#8, 0xCB#8, d, 0xC6#8 ||| ((b.zeroExtend 8) <<< 3)] s
      (past s 4 23 [readOf s (s.eaIy d), .memWrite (s.eaIy d) (setBit8 b (s.peek (s.eaIy d)))])
      (s.eaIy d) (setBit8 b (s.peek (s.eaIy d))) ∧
    stored (.setBIdxIyR b d r) [0xFD#8, 0xCB#8, d, 0xC0#8 ||| ((b.zeroExtend 8) <<< 3) ||| r.code] s
      ((past s 4 23 [readOf s (s.eaIy d), .memWrite (s.eaIy d) (setBit8 b (s.peek (s.eaIy d)))]).setR8 r
        (setBit8 b (s.peek (s.eaIy d)))) (s.eaIy d) (setBit8 b (s.peek (s.eaIy d))) ∧
    exact (.resBR b r) [0xCB#8, 0x80#8 ||| ((b.zeroExtend 8) <<< 3) ||| r.code] s
      ((past s 2 8 []).setR8 r (resBit8 b (s.getR8 r))) ∧
    stored (.resBIndHl b) [0xCB#8, 0x86#8 ||| ((b.zeroExtend 8) <<< 3)] s
      (past s 2 15 [readOf s s.main.hl, .memWrite s.main.hl (resBit8 b (s.peek s.main.hl))]) s.main.hl
      (resBit8 b (s.peek s.main.hl)) ∧
    stored (.resBIdxIx b d) [0xDD#8, 0xCB#8, d, 0x86#8 ||| ((b.zeroExtend 8) <<< 3)] s
      (past s 4 23 [readOf s (s.eaIx d), .memWrite (s.eaIx d) (resBit8 b (s.peek (s.eaIx d)))])
      (s.eaIx d) (resBit8 b (s.peek (s.eaIx d))) ∧
    stored (.resBIdxIxR b d r) [0xDD#8, 0xCB#8, d, 0x80#8 ||| ((b.zeroExtend 8) <<< 3) ||| r.code] s
      ((past s 4 23 [readOf s (s.eaIx d), .memWrite (s.eaIx d) (resBit8 b (s.peek (s.eaIx d)))]).setR8 r
        (resBit8 b (s.peek (s.eaIx d)))) (s.eaIx d) (resBit8 b (s.peek (s.eaIx d))) ∧
    stored (.resBIdxIy b d) [0xFD#8, 0xCB#8, d, 0x86#8 ||| ((b.zeroExtend 8) <<< 3)] s
      (past s 4 23 [readOf s (s.eaIy d), .memWrite (s.eaIy d) (resBit8 b (s.peek (s.eaIy d)))])
      (s.eaIy d) (resBit8 b (s.peek (s.eaIy d))) ∧
    stored (.resBIdxIyR b d r) [0xFD#8, 0xCB#8, d, 0x80#8 ||| ((b.zeroExtend 8) <<< 3) ||| r.code] s
      ((past s 4 23 [readOf s (s.eaIy d), .memWrite (s.eaIy d) (resBit8 b (s.peek (s.eaIy d)))]).setR8 r
        (resBit8 b (s.peek (s.eaIy d)))) (s.eaIy d) (resBit8 b (s.peek (s.eaIy d))) ∧
    (∀ (v : Byte) (k : Nat), k < 8 → (setBit8 b v).getLsbD k = (v.getLsbD k || decide (k = b.toNat)) ∧
      (resBit8 b v).getLsbD k = (v.getLsbD k && decide (k ≠ b.toNat)))

/-- JP, JR, their conditional forms and DJNZ: the target, both outcomes of each condition, the time, and
nothing else changed (R291, R292, R293, R294, R295, R296, R297, R298, R299, R300). -/
def Obligations.JumpForms : Prop :=
  ∀ (s : State) (cc : Cond) (nn : Word) (e : Byte),
    exact (.jpNn nn) [0xC3#8, lo nn, hi nn] s { past s 3 10 [] with pc := nn } ∧
    (s.cond cc = true → exact (.jpCcNn cc nn) [0xC2#8 ||| (cc.code <<< 3), lo nn, hi nn] s
      { past s 3 10 [] with pc := nn }) ∧
    (s.cond cc = false → exact (.jpCcNn cc nn) [0xC2#8 ||| (cc.code <<< 3), lo nn, hi nn] s
      (past s 3 10 [])) ∧
    exact (.jrE e) [0x18#8, e] s { past s 2 12 [] with pc := s.pc + 2 + e.signExtend 16 } ∧
    (s.main.f.c = true → exact (.jrCE e) [0x38#8, e] s
      { past s 2 12 [] with pc := s.pc + 2 + e.signExtend 16 }) ∧
    (s.main.f.c = false → exact (.jrCE e) [0x38#8, e] s (past s 2 7 [])) ∧
    ((!s.main.f.c) = true → exact (.jrNcE e) [0x30#8, e] s
      { past s 2 12 [] with pc := s.pc + 2 + e.signExtend 16 }) ∧
    ((!s.main.f.c) = false → exact (.jrNcE e) [0x30#8, e] s (past s 2 7 [])) ∧
    (s.main.f.z = true → exact (.jrZE e) [0x28#8, e] s
      { past s 2 12 [] with pc := s.pc + 2 + e.signExtend 16 }) ∧
    (s.main.f.z = false → exact (.jrZE e) [0x28#8, e] s (past s 2 7 [])) ∧
    ((!s.main.f.z) = true → exact (.jrNzE e) [0x20#8, e] s
      { past s 2 12 [] with pc := s.pc + 2 + e.signExtend 16 }) ∧
    ((!s.main.f.z) = false → exact (.jrNzE e) [0x20#8, e] s (past s 2 7 [])) ∧
    exact .jpHl [0xE9#8] s { past s 1 4 [] with pc := s.main.hl } ∧
    exact .jpIx [0xDD#8, 0xE9#8] s { past s 2 8 [] with pc := s.ix } ∧
    exact .jpIy [0xFD#8, 0xE9#8] s { past s 2 8 [] with pc := s.iy } ∧
    (s.main.b - 1 ≠ 0 → exact (.djnzE e) [0x10#8, e] s
      { past s 2 13 [] with
        main := { s.main with b := s.main.b - 1 }, pc := s.pc + 2 + e.signExtend 16 }) ∧
    (s.main.b - 1 = 0 → exact (.djnzE e) [0x10#8, e] s
      { past s 2 8 [] with main := { s.main with b := 0 } })

/-- CALL, CALL cc, RST push the next address and go to the target; RET, RET cc, RETI, RETN pop PC; RETN
(RETI by configuration) restores IFF1 (R301, R302, R303, R304, R305, R306, R307). -/
def Obligations.CallReturnForms : Prop :=
  ∀ (s : State) (cc : Cond) (nn : Word) (t : BitVec 3),
    stored16 (.callNn nn) [0xCD#8, lo nn, hi nn] s
      { past s 3 17 (pushes s (s.pc + 3)) with sp := s.sp - 2, pc := nn } (s.sp - 2) (s.pc + 3) ∧
    (s.cond cc = true → stored16 (.callCcNn cc nn) [0xC4#8 ||| (cc.code <<< 3), lo nn, hi nn] s
      { past s 3 17 (pushes s (s.pc + 3)) with sp := s.sp - 2, pc := nn } (s.sp - 2) (s.pc + 3)) ∧
    (s.cond cc = false → exact (.callCcNn cc nn) [0xC4#8 ||| (cc.code <<< 3), lo nn, hi nn] s
      (past s 3 10 [])) ∧
    stored16 (.rstP t) [0xC7#8 ||| ((t.zeroExtend 8) <<< 3)] s
      { past s 1 11 (pushes s (s.pc + 1)) with sp := s.sp - 2, pc := BitVec.ofNat 16 (t.toNat * 8) }
      (s.sp - 2) (s.pc + 1) ∧
    exact .ret [0xC9#8] s { past s 1 10 (readsWord s s.sp) with sp := s.sp + 2, pc := word s s.sp } ∧
    (s.cond cc = true → exact (.retCc cc) [0xC0#8 ||| (cc.code <<< 3)] s
      { past s 1 11 (readsWord s s.sp) with sp := s.sp + 2, pc := word s s.sp }) ∧
    (s.cond cc = false → exact (.retCc cc) [0xC0#8 ||| (cc.code <<< 3)] s (past s 1 5 [])) ∧
    (s.cfg.retiCopiesIff2 = false → exact .reti [0xED#8, 0x4D#8] s
      { past s 2 14 (readsWord s s.sp) with sp := s.sp + 2, pc := word s s.sp }) ∧
    (s.cfg.retiCopiesIff2 = true → exact .reti [0xED#8, 0x4D#8] s
      { past s 2 14 (readsWord s s.sp) with sp := s.sp + 2, pc := word s s.sp, iff1 := s.iff2 }) ∧
    Config.default.retiCopiesIff2 = false ∧
    exact .retn [0xED#8, 0x45#8] s
      { past s 2 14 (readsWord s s.sp) with sp := s.sp + 2, pc := word s s.sp, iff1 := s.iff2 }

/-- RET after CALL, with the stack left alone in plain memory (log 2), comes back to the instruction after
the CALL with SP restored (R301, R303, R69). -/
def Obligations.ReturnUndoesCall : Prop :=
  ∀ (s t u : State) (nn : Word), exec (.callNn nn) s = .next t → u.sp = t.sp → u.mem = t.mem →
    ∃ v, exec .ret u = .next v ∧ v.pc = s.pc + 3 ∧ v.sp = s.sp ∧
      ∀ a, a ≠ s.sp - 1 → a ≠ s.sp - 2 → v.peek a = s.peek a

/-- IN A,(n); IN r,(C); OUT (n),A; OUT (C),r: the port number presented, the value moved, the flags of IN
r,(C), nothing else changed (R321, R322, R327, R328). -/
def Obligations.InOutForms : Prop :=
  ∀ (s : State) (r : Reg8) (n : Byte),
    exact (.inAPortN n) [0xDB#8, n] s
      { past s 2 11 [.portRead (pair s.main.a n) (s.portAnswer (pair s.main.a n))] with
        main := { s.main with a := s.portAnswer (pair s.main.a n) }, portIn := s.portIn.tail,
        draws := s.draws + 1 } ∧
    flagged (.inRPortC r) [0xED#8, 0x40#8 ||| (r.code <<< 3)] s
      { s.main.f with
        s := (s.portAnswer s.main.bc).getLsbD 7, z := decide ((s.portAnswer s.main.bc) = 0#8),
        h := false, pv := parity8 (s.portAnswer s.main.bc), n := false }
      (({ pastDrawn s 2 12 [.portRead s.main.bc (s.portAnswer s.main.bc)] with
          portIn := s.portIn.tail, draws := s.draws + 2 } : State).setR8 r (s.portAnswer s.main.bc)) ∧
    exact (.outPortNA n) [0xD3#8, n] s (past s 2 11 [.portWrite (pair s.main.a n) s.main.a]) ∧
    exact (.outPortCR r) [0xED#8, 0x41#8 ||| (r.code <<< 3)] s
      (past s 2 12 [.portWrite s.main.bc (s.getR8 r)])

/-- INI, IND, OUTI, OUTD and one iteration of INIR, INDR, OTIR, OTDR: port, byte moved, HL, B, flags, and
PC staying while B is not 0 (R323, R324, R325, R326, R329, R330, R331, R332). -/
def Obligations.BlockInputOutputForms : Prop :=
  ∀ s : State,
    flaggedStored .ini [0xED#8, 0xA2#8] s
      { s.main.f with
        s := (s.main.b - 1).getLsbD 7, z := decide ((s.main.b - 1) = 0#8),
        h := decide (((s.portAnswer s.main.bc).toNat + (s.main.c + 1).toNat) > 255),
        pv := parity8
          (BitVec.ofNat 8 (((s.portAnswer s.main.bc).toNat + (s.main.c + 1).toNat) % 8) ^^^
            (s.main.b - 1)), n := (s.portAnswer s.main.bc).getLsbD 7,
        c := decide (((s.portAnswer s.main.bc).toNat + (s.main.c + 1).toNat) > 255) }
      { pastDrawn s 2 16
          [.portRead s.main.bc (s.portAnswer s.main.bc), .memWrite s.main.hl (s.portAnswer s.main.bc)]
          with
        main := { s.main with b := (s.main.b - 1), h := hi (s.main.hl + 1), l := lo (s.main.hl + 1) },
        portIn := s.portIn.tail, draws := s.draws + 2 } s.main.hl (s.portAnswer s.main.bc) ∧
    ((s.main.b - 1) = 0 → flaggedStored .inir [0xED#8, 0xB2#8] s
      { s.main.f with
        s := (s.main.b - 1).getLsbD 7, z := decide ((s.main.b - 1) = 0#8),
        h := decide (((s.portAnswer s.main.bc).toNat + (s.main.c + 1).toNat) > 255),
        pv := parity8
          (BitVec.ofNat 8 (((s.portAnswer s.main.bc).toNat + (s.main.c + 1).toNat) % 8) ^^^
            (s.main.b - 1)), n := (s.portAnswer s.main.bc).getLsbD 7,
        c := decide (((s.portAnswer s.main.bc).toNat + (s.main.c + 1).toNat) > 255) }
      { pastDrawn s 2 16
          [.portRead s.main.bc (s.portAnswer s.main.bc), .memWrite s.main.hl (s.portAnswer s.main.bc)]
          with
        main := { s.main with b := (s.main.b - 1), h := hi (s.main.hl + 1), l := lo (s.main.hl + 1) },
        portIn := s.portIn.tail, draws := s.draws + 2 } s.main.hl (s.portAnswer s.main.bc)) ∧
    ((s.main.b - 1) ≠ 0 → ∃ hAny pvAny, flaggedStored .inir [0xED#8, 0xB2#8] s
      { s.main.f with
        s := (s.main.b - 1).getLsbD 7, z := decide ((s.main.b - 1) = 0#8), h := hAny, pv := pvAny,
        n := (s.portAnswer s.main.bc).getLsbD 7,
        c := decide (((s.portAnswer s.main.bc).toNat + (s.main.c + 1).toNat) > 255) }
      { pastDrawn s 2 21
          [.portRead s.main.bc (s.portAnswer s.main.bc), .memWrite s.main.hl (s.portAnswer s.main.bc)]
          with
        main := { s.main with b := (s.main.b - 1), h := hi (s.main.hl + 1), l := lo (s.main.hl + 1) },
        portIn := s.portIn.tail, draws := s.draws + 2, pc := s.pc } s.main.hl
      (s.portAnswer s.main.bc)) ∧
    flaggedStored .ind [0xED#8, 0xAA#8] s
      { s.main.f with
        s := (s.main.b - 1).getLsbD 7, z := decide ((s.main.b - 1) = 0#8),
        h := decide (((s.portAnswer s.main.bc).toNat + (s.main.c - 1).toNat) > 255),
        pv := parity8
          (BitVec.ofNat 8 (((s.portAnswer s.main.bc).toNat + (s.main.c - 1).toNat) % 8) ^^^
            (s.main.b - 1)), n := (s.portAnswer s.main.bc).getLsbD 7,
        c := decide (((s.portAnswer s.main.bc).toNat + (s.main.c - 1).toNat) > 255) }
      { pastDrawn s 2 16
          [.portRead s.main.bc (s.portAnswer s.main.bc), .memWrite s.main.hl (s.portAnswer s.main.bc)]
          with
        main := { s.main with b := (s.main.b - 1), h := hi (s.main.hl - 1), l := lo (s.main.hl - 1) },
        portIn := s.portIn.tail, draws := s.draws + 2 } s.main.hl (s.portAnswer s.main.bc) ∧
    ((s.main.b - 1) = 0 → flaggedStored .indr [0xED#8, 0xBA#8] s
      { s.main.f with
        s := (s.main.b - 1).getLsbD 7, z := decide ((s.main.b - 1) = 0#8),
        h := decide (((s.portAnswer s.main.bc).toNat + (s.main.c - 1).toNat) > 255),
        pv := parity8
          (BitVec.ofNat 8 (((s.portAnswer s.main.bc).toNat + (s.main.c - 1).toNat) % 8) ^^^
            (s.main.b - 1)), n := (s.portAnswer s.main.bc).getLsbD 7,
        c := decide (((s.portAnswer s.main.bc).toNat + (s.main.c - 1).toNat) > 255) }
      { pastDrawn s 2 16
          [.portRead s.main.bc (s.portAnswer s.main.bc), .memWrite s.main.hl (s.portAnswer s.main.bc)]
          with
        main := { s.main with b := (s.main.b - 1), h := hi (s.main.hl - 1), l := lo (s.main.hl - 1) },
        portIn := s.portIn.tail, draws := s.draws + 2 } s.main.hl (s.portAnswer s.main.bc)) ∧
    ((s.main.b - 1) ≠ 0 → ∃ hAny pvAny, flaggedStored .indr [0xED#8, 0xBA#8] s
      { s.main.f with
        s := (s.main.b - 1).getLsbD 7, z := decide ((s.main.b - 1) = 0#8), h := hAny, pv := pvAny,
        n := (s.portAnswer s.main.bc).getLsbD 7,
        c := decide (((s.portAnswer s.main.bc).toNat + (s.main.c - 1).toNat) > 255) }
      { pastDrawn s 2 21
          [.portRead s.main.bc (s.portAnswer s.main.bc), .memWrite s.main.hl (s.portAnswer s.main.bc)]
          with
        main := { s.main with b := (s.main.b - 1), h := hi (s.main.hl - 1), l := lo (s.main.hl - 1) },
        portIn := s.portIn.tail, draws := s.draws + 2, pc := s.pc } s.main.hl
      (s.portAnswer s.main.bc)) ∧
    flagged .outi [0xED#8, 0xA3#8] s
      { s.main.f with
        s := (s.main.b - 1).getLsbD 7, z := decide ((s.main.b - 1) = 0#8),
        h := decide (((s.peek s.main.hl).toNat + (lo (s.main.hl + 1)).toNat) > 255),
        pv := parity8
          (BitVec.ofNat 8 (((s.peek s.main.hl).toNat + (lo (s.main.hl + 1)).toNat) % 8) ^^^
            (s.main.b - 1)), n := (s.peek s.main.hl).getLsbD 7,
        c := decide (((s.peek s.main.hl).toNat + (lo (s.main.hl + 1)).toNat) > 255) }
      { pastDrawn s 2 16
          [readOf s s.main.hl, .portWrite (pair (s.main.b - 1) s.main.c) (s.peek s.main.hl)] with
        main :=
          { s.main with b := (s.main.b - 1), h := hi (s.main.hl + 1), l := lo (s.main.hl + 1) } } ∧
    ((s.main.b - 1) = 0 → flagged .otir [0xED#8, 0xB3#8] s
      { s.main.f with
        s := (s.main.b - 1).getLsbD 7, z := decide ((s.main.b - 1) = 0#8),
        h := decide (((s.peek s.main.hl).toNat + (lo (s.main.hl + 1)).toNat) > 255),
        pv := parity8
          (BitVec.ofNat 8 (((s.peek s.main.hl).toNat + (lo (s.main.hl + 1)).toNat) % 8) ^^^
            (s.main.b - 1)), n := (s.peek s.main.hl).getLsbD 7,
        c := decide (((s.peek s.main.hl).toNat + (lo (s.main.hl + 1)).toNat) > 255) }
      { pastDrawn s 2 16
          [readOf s s.main.hl, .portWrite (pair (s.main.b - 1) s.main.c) (s.peek s.main.hl)] with
        main :=
          { s.main with b := (s.main.b - 1), h := hi (s.main.hl + 1), l := lo (s.main.hl + 1) } }) ∧
    ((s.main.b - 1) ≠ 0 → ∃ hAny pvAny, flagged .otir [0xED#8, 0xB3#8] s
      { s.main.f with
        s := (s.main.b - 1).getLsbD 7, z := decide ((s.main.b - 1) = 0#8), h := hAny, pv := pvAny,
        n := (s.peek s.main.hl).getLsbD 7,
        c := decide (((s.peek s.main.hl).toNat + (lo (s.main.hl + 1)).toNat) > 255) }
      { pastDrawn s 2 21
          [readOf s s.main.hl, .portWrite (pair (s.main.b - 1) s.main.c) (s.peek s.main.hl)] with
        main := { s.main with b := (s.main.b - 1), h := hi (s.main.hl + 1), l := lo (s.main.hl + 1) },
        pc := s.pc }) ∧
    flagged .outd [0xED#8, 0xAB#8] s
      { s.main.f with
        s := (s.main.b - 1).getLsbD 7, z := decide ((s.main.b - 1) = 0#8),
        h := decide (((s.peek s.main.hl).toNat + (lo (s.main.hl - 1)).toNat) > 255),
        pv := parity8
          (BitVec.ofNat 8 (((s.peek s.main.hl).toNat + (lo (s.main.hl - 1)).toNat) % 8) ^^^
            (s.main.b - 1)), n := (s.peek s.main.hl).getLsbD 7,
        c := decide (((s.peek s.main.hl).toNat + (lo (s.main.hl - 1)).toNat) > 255) }
      { pastDrawn s 2 16
          [readOf s s.main.hl, .portWrite (pair (s.main.b - 1) s.main.c) (s.peek s.main.hl)] with
        main :=
          { s.main with b := (s.main.b - 1), h := hi (s.main.hl - 1), l := lo (s.main.hl - 1) } } ∧
    ((s.main.b - 1) = 0 → flagged .otdr [0xED#8, 0xBB#8] s
      { s.main.f with
        s := (s.main.b - 1).getLsbD 7, z := decide ((s.main.b - 1) = 0#8),
        h := decide (((s.peek s.main.hl).toNat + (lo (s.main.hl - 1)).toNat) > 255),
        pv := parity8
          (BitVec.ofNat 8 (((s.peek s.main.hl).toNat + (lo (s.main.hl - 1)).toNat) % 8) ^^^
            (s.main.b - 1)), n := (s.peek s.main.hl).getLsbD 7,
        c := decide (((s.peek s.main.hl).toNat + (lo (s.main.hl - 1)).toNat) > 255) }
      { pastDrawn s 2 16
          [readOf s s.main.hl, .portWrite (pair (s.main.b - 1) s.main.c) (s.peek s.main.hl)] with
        main :=
          { s.main with b := (s.main.b - 1), h := hi (s.main.hl - 1), l := lo (s.main.hl - 1) } }) ∧
    ((s.main.b - 1) ≠ 0 → ∃ hAny pvAny, flagged .otdr [0xED#8, 0xBB#8] s
      { s.main.f with
        s := (s.main.b - 1).getLsbD 7, z := decide ((s.main.b - 1) = 0#8), h := hAny, pv := pvAny,
        n := (s.peek s.main.hl).getLsbD 7,
        c := decide (((s.peek s.main.hl).toNat + (lo (s.main.hl - 1)).toNat) > 255) }
      { pastDrawn s 2 21
          [readOf s s.main.hl, .portWrite (pair (s.main.b - 1) s.main.c) (s.peek s.main.hl)] with
        main := { s.main with b := (s.main.b - 1), h := hi (s.main.hl - 1), l := lo (s.main.hl - 1) },
        pc := s.pc })

end
end

