-- ==== Sys2Proof/Laws/Memory.lean ====
section
/-! SUPPORT. Memory as data: a read after a write, and the canonical form, which every operation keeps. -/

namespace Sys2Proof.Machine.Memory

theorem read_cons (c : Host.Cell) (m : Memory) (a : Nat) :
    read (c :: m) a = if c.1 = a then c.2 else read m a := rfl

theorem read_insert (m : Memory) (a b : Nat) (v : Byte) :
    (insert m a v).read b = if b = a then v else m.read b := by
  have sym : (a = b) = (b = a) := propext eq_comm
  induction m with
  | nil => simp only [insert, read, sym]
  | cons c m ih =>
    unfold insert
    split
    · simp only [read, sym]
    · split
      · rename_i hc
        simp only [read, hc, sym]
        split <;> rfl
      · rename_i hc
        simp only [read, ih]
        by_cases h : b = a
        · subst h
          simp only [if_neg hc]
        · simp only [if_neg h]

theorem read_erase (m : Memory) (a b : Nat) :
    (erase m a).read b = if b = a then fill else m.read b := by
  induction m with
  | nil => simp [erase, read]
  | cons c m ih =>
    unfold erase at ih ⊢
    by_cases hc : c.1 = a
    · rw [List.filter_cons_of_neg (by simp [hc]), ih, read_cons]
      by_cases h : b = a
      · simp only [if_pos h]
      · rw [if_neg h, if_neg h, if_neg (by omega)]
    · rw [List.filter_cons_of_pos (by simp [hc]), read_cons, read_cons, ih]
      by_cases h : b = a
      · rw [if_pos h, if_pos h, if_neg (by omega)]
      · simp only [if_neg h]

/-- What any byte reads as after a write. -/
theorem read_write (m : Memory) (a b : Nat) (v : Byte) :
    (m.write a v).read b = if b = a then v else m.read b := by
  unfold write
  split
  · rename_i h
    rw [read_erase, h]
  · exact read_insert m a b v

@[simp] theorem read_write_same (m : Memory) (a : Nat) (v : Byte) : (m.write a v).read a = v := by
  simp [read_write]

theorem read_write_other (m : Memory) {a b : Nat} (v : Byte) (h : b ≠ a) :
    (m.write a v).read b = m.read b := by
  simp [read_write, h]

theorem mem_insert {m : Memory} {a : Nat} {v : Byte} {c : Host.Cell} (h : c ∈ insert m a v) :
    c = (a, v) ∨ c ∈ m := by
  induction m with
  | nil => simpa [insert] using h
  | cons d m ih =>
    unfold insert at h
    split at h
    · simpa using h
    · split at h
      · simp at h ⊢; tauto
      · simp at h ⊢
        rcases h with h | h
        · exact .inr (.inl h)
        · rcases ih h with h | h
          · exact .inl h
          · exact .inr (.inr h)

theorem pairwise_insert {m : Memory} (a : Nat) (v : Byte) (h : m.Pairwise (fun c d => c.1 < d.1)) :
    (insert m a v).Pairwise (fun c d => c.1 < d.1) := by
  induction m with
  | nil => simp [insert]
  | cons d m ih =>
    have ⟨h1, h2⟩ := List.pairwise_cons.1 h
    unfold insert
    split
    · rename_i ha
      refine List.pairwise_cons.2 ⟨fun c hc => ?_, h⟩
      rcases List.mem_cons.1 hc with rfl | hc
      · exact ha
      · exact Nat.lt_trans ha (h1 c hc)
    · split
      · rename_i ha
        exact List.pairwise_cons.2 ⟨fun c hc => ha ▸ h1 c hc, h2⟩
      · rename_i ha hb
        refine List.pairwise_cons.2 ⟨fun c hc => ?_, ih h2⟩
        rcases mem_insert hc with rfl | hc
        · show d.1 < a
          omega
        · exact h1 c hc

/-- Every write inside the address space keeps the canonical form. -/
theorem write_wf {m : Memory} {a : Nat} (v : Byte) (h : m.wf) (ha : a < 65536) : (m.write a v).wf := by
  unfold write
  split
  · refine ⟨h.1.filter _, fun c hc => h.2 c ?_⟩
    exact (List.mem_filter.1 hc).1
  · rename_i hv
    refine ⟨pairwise_insert a v h.1, fun c hc => ?_⟩
    rcases mem_insert hc with rfl | hc
    · exact ⟨ha, hv⟩
    · exact h.2 c hc

theorem nil_wf : Memory.wf [] := by decide

end Sys2Proof.Machine.Memory
end

