-- ==== Sys2Proof/Laws/State.lean ====
section
/-! SUPPORT. The small lemmas of the state: what each update of Operands.lean, Ops.lean and Fetch.lean leaves in each field, and how reads and updates of registers, flags and bytes meet. -/

namespace Sys2Proof.Machine.State

variable (s : State)

/-! ### `setA` -/

@[simp] theorem setA_main (v : Byte) : (s.setA v).main = { s.main with a := v } := rfl
@[simp] theorem setA_alt (v : Byte) : (s.setA v).alt = s.alt := rfl
@[simp] theorem setA_ix (v : Byte) : (s.setA v).ix = s.ix := rfl
@[simp] theorem setA_iy (v : Byte) : (s.setA v).iy = s.iy := rfl
@[simp] theorem setA_sp (v : Byte) : (s.setA v).sp = s.sp := rfl
@[simp] theorem setA_pc (v : Byte) : (s.setA v).pc = s.pc := rfl
@[simp] theorem setA_i (v : Byte) : (s.setA v).i = s.i := rfl
@[simp] theorem setA_r (v : Byte) : (s.setA v).r = s.r := rfl
@[simp] theorem setA_iff1 (v : Byte) : (s.setA v).iff1 = s.iff1 := rfl
@[simp] theorem setA_iff2 (v : Byte) : (s.setA v).iff2 = s.iff2 := rfl
@[simp] theorem setA_im (v : Byte) : (s.setA v).im = s.im := rfl
@[simp] theorem setA_haltSt (v : Byte) : (s.setA v).haltSt = s.haltSt := rfl
@[simp] theorem setA_eiSt (v : Byte) : (s.setA v).eiSt = s.eiSt := rfl
@[simp] theorem setA_mem (v : Byte) : (s.setA v).mem = s.mem := rfl
@[simp] theorem setA_cfg (v : Byte) : (s.setA v).cfg = s.cfg := rfl
@[simp] theorem setA_signals (v : Byte) : (s.setA v).signals = s.signals := rfl
@[simp] theorem setA_portIn (v : Byte) : (s.setA v).portIn = s.portIn := rfl
@[simp] theorem setA_bus (v : Byte) : (s.setA v).bus = s.bus := rfl
@[simp] theorem setA_anyIn (v : Byte) : (s.setA v).anyIn = s.anyIn := rfl
@[simp] theorem setA_draws (v : Byte) : (s.setA v).draws = s.draws := rfl
@[simp] theorem setA_returned (v : Byte) : (s.setA v).returned = s.returned := rfl

/-! ### `setB` -/

@[simp] theorem setB_main (v : Byte) : (s.setB v).main = { s.main with b := v } := rfl
@[simp] theorem setB_alt (v : Byte) : (s.setB v).alt = s.alt := rfl
@[simp] theorem setB_ix (v : Byte) : (s.setB v).ix = s.ix := rfl
@[simp] theorem setB_iy (v : Byte) : (s.setB v).iy = s.iy := rfl
@[simp] theorem setB_sp (v : Byte) : (s.setB v).sp = s.sp := rfl
@[simp] theorem setB_pc (v : Byte) : (s.setB v).pc = s.pc := rfl
@[simp] theorem setB_i (v : Byte) : (s.setB v).i = s.i := rfl
@[simp] theorem setB_r (v : Byte) : (s.setB v).r = s.r := rfl
@[simp] theorem setB_iff1 (v : Byte) : (s.setB v).iff1 = s.iff1 := rfl
@[simp] theorem setB_iff2 (v : Byte) : (s.setB v).iff2 = s.iff2 := rfl
@[simp] theorem setB_im (v : Byte) : (s.setB v).im = s.im := rfl
@[simp] theorem setB_haltSt (v : Byte) : (s.setB v).haltSt = s.haltSt := rfl
@[simp] theorem setB_eiSt (v : Byte) : (s.setB v).eiSt = s.eiSt := rfl
@[simp] theorem setB_mem (v : Byte) : (s.setB v).mem = s.mem := rfl
@[simp] theorem setB_cfg (v : Byte) : (s.setB v).cfg = s.cfg := rfl
@[simp] theorem setB_signals (v : Byte) : (s.setB v).signals = s.signals := rfl
@[simp] theorem setB_portIn (v : Byte) : (s.setB v).portIn = s.portIn := rfl
@[simp] theorem setB_bus (v : Byte) : (s.setB v).bus = s.bus := rfl
@[simp] theorem setB_anyIn (v : Byte) : (s.setB v).anyIn = s.anyIn := rfl
@[simp] theorem setB_draws (v : Byte) : (s.setB v).draws = s.draws := rfl
@[simp] theorem setB_returned (v : Byte) : (s.setB v).returned = s.returned := rfl

/-! ### `setF` -/

@[simp] theorem setF_main (f : Flags) : (s.setF f).main = { s.main with f := f } := rfl
@[simp] theorem setF_alt (f : Flags) : (s.setF f).alt = s.alt := rfl
@[simp] theorem setF_ix (f : Flags) : (s.setF f).ix = s.ix := rfl
@[simp] theorem setF_iy (f : Flags) : (s.setF f).iy = s.iy := rfl
@[simp] theorem setF_sp (f : Flags) : (s.setF f).sp = s.sp := rfl
@[simp] theorem setF_pc (f : Flags) : (s.setF f).pc = s.pc := rfl
@[simp] theorem setF_i (f : Flags) : (s.setF f).i = s.i := rfl
@[simp] theorem setF_r (f : Flags) : (s.setF f).r = s.r := rfl
@[simp] theorem setF_iff1 (f : Flags) : (s.setF f).iff1 = s.iff1 := rfl
@[simp] theorem setF_iff2 (f : Flags) : (s.setF f).iff2 = s.iff2 := rfl
@[simp] theorem setF_im (f : Flags) : (s.setF f).im = s.im := rfl
@[simp] theorem setF_haltSt (f : Flags) : (s.setF f).haltSt = s.haltSt := rfl
@[simp] theorem setF_eiSt (f : Flags) : (s.setF f).eiSt = s.eiSt := rfl
@[simp] theorem setF_mem (f : Flags) : (s.setF f).mem = s.mem := rfl
@[simp] theorem setF_cfg (f : Flags) : (s.setF f).cfg = s.cfg := rfl
@[simp] theorem setF_signals (f : Flags) : (s.setF f).signals = s.signals := rfl
@[simp] theorem setF_portIn (f : Flags) : (s.setF f).portIn = s.portIn := rfl
@[simp] theorem setF_bus (f : Flags) : (s.setF f).bus = s.bus := rfl
@[simp] theorem setF_anyIn (f : Flags) : (s.setF f).anyIn = s.anyIn := rfl
@[simp] theorem setF_draws (f : Flags) : (s.setF f).draws = s.draws := rfl
@[simp] theorem setF_returned (f : Flags) : (s.setF f).returned = s.returned := rfl

/-! ### `setBc` -/

@[simp] theorem setBc_main (v : Word) : (s.setBc v).main = s.main.setBc v := rfl
@[simp] theorem setBc_alt (v : Word) : (s.setBc v).alt = s.alt := rfl
@[simp] theorem setBc_ix (v : Word) : (s.setBc v).ix = s.ix := rfl
@[simp] theorem setBc_iy (v : Word) : (s.setBc v).iy = s.iy := rfl
@[simp] theorem setBc_sp (v : Word) : (s.setBc v).sp = s.sp := rfl
@[simp] theorem setBc_pc (v : Word) : (s.setBc v).pc = s.pc := rfl
@[simp] theorem setBc_i (v : Word) : (s.setBc v).i = s.i := rfl
@[simp] theorem setBc_r (v : Word) : (s.setBc v).r = s.r := rfl
@[simp] theorem setBc_iff1 (v : Word) : (s.setBc v).iff1 = s.iff1 := rfl
@[simp] theorem setBc_iff2 (v : Word) : (s.setBc v).iff2 = s.iff2 := rfl
@[simp] theorem setBc_im (v : Word) : (s.setBc v).im = s.im := rfl
@[simp] theorem setBc_haltSt (v : Word) : (s.setBc v).haltSt = s.haltSt := rfl
@[simp] theorem setBc_eiSt (v : Word) : (s.setBc v).eiSt = s.eiSt := rfl
@[simp] theorem setBc_mem (v : Word) : (s.setBc v).mem = s.mem := rfl
@[simp] theorem setBc_cfg (v : Word) : (s.setBc v).cfg = s.cfg := rfl
@[simp] theorem setBc_signals (v : Word) : (s.setBc v).signals = s.signals := rfl
@[simp] theorem setBc_portIn (v : Word) : (s.setBc v).portIn = s.portIn := rfl
@[simp] theorem setBc_bus (v : Word) : (s.setBc v).bus = s.bus := rfl
@[simp] theorem setBc_anyIn (v : Word) : (s.setBc v).anyIn = s.anyIn := rfl
@[simp] theorem setBc_draws (v : Word) : (s.setBc v).draws = s.draws := rfl
@[simp] theorem setBc_returned (v : Word) : (s.setBc v).returned = s.returned := rfl

/-! ### `setDe` -/

@[simp] theorem setDe_main (v : Word) : (s.setDe v).main = s.main.setDe v := rfl
@[simp] theorem setDe_alt (v : Word) : (s.setDe v).alt = s.alt := rfl
@[simp] theorem setDe_ix (v : Word) : (s.setDe v).ix = s.ix := rfl
@[simp] theorem setDe_iy (v : Word) : (s.setDe v).iy = s.iy := rfl
@[simp] theorem setDe_sp (v : Word) : (s.setDe v).sp = s.sp := rfl
@[simp] theorem setDe_pc (v : Word) : (s.setDe v).pc = s.pc := rfl
@[simp] theorem setDe_i (v : Word) : (s.setDe v).i = s.i := rfl
@[simp] theorem setDe_r (v : Word) : (s.setDe v).r = s.r := rfl
@[simp] theorem setDe_iff1 (v : Word) : (s.setDe v).iff1 = s.iff1 := rfl
@[simp] theorem setDe_iff2 (v : Word) : (s.setDe v).iff2 = s.iff2 := rfl
@[simp] theorem setDe_im (v : Word) : (s.setDe v).im = s.im := rfl
@[simp] theorem setDe_haltSt (v : Word) : (s.setDe v).haltSt = s.haltSt := rfl
@[simp] theorem setDe_eiSt (v : Word) : (s.setDe v).eiSt = s.eiSt := rfl
@[simp] theorem setDe_mem (v : Word) : (s.setDe v).mem = s.mem := rfl
@[simp] theorem setDe_cfg (v : Word) : (s.setDe v).cfg = s.cfg := rfl
@[simp] theorem setDe_signals (v : Word) : (s.setDe v).signals = s.signals := rfl
@[simp] theorem setDe_portIn (v : Word) : (s.setDe v).portIn = s.portIn := rfl
@[simp] theorem setDe_bus (v : Word) : (s.setDe v).bus = s.bus := rfl
@[simp] theorem setDe_anyIn (v : Word) : (s.setDe v).anyIn = s.anyIn := rfl
@[simp] theorem setDe_draws (v : Word) : (s.setDe v).draws = s.draws := rfl
@[simp] theorem setDe_returned (v : Word) : (s.setDe v).returned = s.returned := rfl

/-! ### `setHl` -/

@[simp] theorem setHl_main (v : Word) : (s.setHl v).main = s.main.setHl v := rfl
@[simp] theorem setHl_alt (v : Word) : (s.setHl v).alt = s.alt := rfl
@[simp] theorem setHl_ix (v : Word) : (s.setHl v).ix = s.ix := rfl
@[simp] theorem setHl_iy (v : Word) : (s.setHl v).iy = s.iy := rfl
@[simp] theorem setHl_sp (v : Word) : (s.setHl v).sp = s.sp := rfl
@[simp] theorem setHl_pc (v : Word) : (s.setHl v).pc = s.pc := rfl
@[simp] theorem setHl_i (v : Word) : (s.setHl v).i = s.i := rfl
@[simp] theorem setHl_r (v : Word) : (s.setHl v).r = s.r := rfl
@[simp] theorem setHl_iff1 (v : Word) : (s.setHl v).iff1 = s.iff1 := rfl
@[simp] theorem setHl_iff2 (v : Word) : (s.setHl v).iff2 = s.iff2 := rfl
@[simp] theorem setHl_im (v : Word) : (s.setHl v).im = s.im := rfl
@[simp] theorem setHl_haltSt (v : Word) : (s.setHl v).haltSt = s.haltSt := rfl
@[simp] theorem setHl_eiSt (v : Word) : (s.setHl v).eiSt = s.eiSt := rfl
@[simp] theorem setHl_mem (v : Word) : (s.setHl v).mem = s.mem := rfl
@[simp] theorem setHl_cfg (v : Word) : (s.setHl v).cfg = s.cfg := rfl
@[simp] theorem setHl_signals (v : Word) : (s.setHl v).signals = s.signals := rfl
@[simp] theorem setHl_portIn (v : Word) : (s.setHl v).portIn = s.portIn := rfl
@[simp] theorem setHl_bus (v : Word) : (s.setHl v).bus = s.bus := rfl
@[simp] theorem setHl_anyIn (v : Word) : (s.setHl v).anyIn = s.anyIn := rfl
@[simp] theorem setHl_draws (v : Word) : (s.setHl v).draws = s.draws := rfl
@[simp] theorem setHl_returned (v : Word) : (s.setHl v).returned = s.returned := rfl

/-! ### `setAf` -/

@[simp] theorem setAf_main (v : Word) : (s.setAf v).main = s.main.setAf v := rfl
@[simp] theorem setAf_alt (v : Word) : (s.setAf v).alt = s.alt := rfl
@[simp] theorem setAf_ix (v : Word) : (s.setAf v).ix = s.ix := rfl
@[simp] theorem setAf_iy (v : Word) : (s.setAf v).iy = s.iy := rfl
@[simp] theorem setAf_sp (v : Word) : (s.setAf v).sp = s.sp := rfl
@[simp] theorem setAf_pc (v : Word) : (s.setAf v).pc = s.pc := rfl
@[simp] theorem setAf_i (v : Word) : (s.setAf v).i = s.i := rfl
@[simp] theorem setAf_r (v : Word) : (s.setAf v).r = s.r := rfl
@[simp] theorem setAf_iff1 (v : Word) : (s.setAf v).iff1 = s.iff1 := rfl
@[simp] theorem setAf_iff2 (v : Word) : (s.setAf v).iff2 = s.iff2 := rfl
@[simp] theorem setAf_im (v : Word) : (s.setAf v).im = s.im := rfl
@[simp] theorem setAf_haltSt (v : Word) : (s.setAf v).haltSt = s.haltSt := rfl
@[simp] theorem setAf_eiSt (v : Word) : (s.setAf v).eiSt = s.eiSt := rfl
@[simp] theorem setAf_mem (v : Word) : (s.setAf v).mem = s.mem := rfl
@[simp] theorem setAf_cfg (v : Word) : (s.setAf v).cfg = s.cfg := rfl
@[simp] theorem setAf_signals (v : Word) : (s.setAf v).signals = s.signals := rfl
@[simp] theorem setAf_portIn (v : Word) : (s.setAf v).portIn = s.portIn := rfl
@[simp] theorem setAf_bus (v : Word) : (s.setAf v).bus = s.bus := rfl
@[simp] theorem setAf_anyIn (v : Word) : (s.setAf v).anyIn = s.anyIn := rfl
@[simp] theorem setAf_draws (v : Word) : (s.setAf v).draws = s.draws := rfl
@[simp] theorem setAf_returned (v : Word) : (s.setAf v).returned = s.returned := rfl

/-! ### `setIx` -/

@[simp] theorem setIx_main (v : Word) : (s.setIx v).main = s.main := rfl
@[simp] theorem setIx_alt (v : Word) : (s.setIx v).alt = s.alt := rfl
@[simp] theorem setIx_ix (v : Word) : (s.setIx v).ix = v := rfl
@[simp] theorem setIx_iy (v : Word) : (s.setIx v).iy = s.iy := rfl
@[simp] theorem setIx_sp (v : Word) : (s.setIx v).sp = s.sp := rfl
@[simp] theorem setIx_pc (v : Word) : (s.setIx v).pc = s.pc := rfl
@[simp] theorem setIx_i (v : Word) : (s.setIx v).i = s.i := rfl
@[simp] theorem setIx_r (v : Word) : (s.setIx v).r = s.r := rfl
@[simp] theorem setIx_iff1 (v : Word) : (s.setIx v).iff1 = s.iff1 := rfl
@[simp] theorem setIx_iff2 (v : Word) : (s.setIx v).iff2 = s.iff2 := rfl
@[simp] theorem setIx_im (v : Word) : (s.setIx v).im = s.im := rfl
@[simp] theorem setIx_haltSt (v : Word) : (s.setIx v).haltSt = s.haltSt := rfl
@[simp] theorem setIx_eiSt (v : Word) : (s.setIx v).eiSt = s.eiSt := rfl
@[simp] theorem setIx_mem (v : Word) : (s.setIx v).mem = s.mem := rfl
@[simp] theorem setIx_cfg (v : Word) : (s.setIx v).cfg = s.cfg := rfl
@[simp] theorem setIx_signals (v : Word) : (s.setIx v).signals = s.signals := rfl
@[simp] theorem setIx_portIn (v : Word) : (s.setIx v).portIn = s.portIn := rfl
@[simp] theorem setIx_bus (v : Word) : (s.setIx v).bus = s.bus := rfl
@[simp] theorem setIx_anyIn (v : Word) : (s.setIx v).anyIn = s.anyIn := rfl
@[simp] theorem setIx_draws (v : Word) : (s.setIx v).draws = s.draws := rfl
@[simp] theorem setIx_returned (v : Word) : (s.setIx v).returned = s.returned := rfl

/-! ### `setIy` -/

@[simp] theorem setIy_main (v : Word) : (s.setIy v).main = s.main := rfl
@[simp] theorem setIy_alt (v : Word) : (s.setIy v).alt = s.alt := rfl
@[simp] theorem setIy_ix (v : Word) : (s.setIy v).ix = s.ix := rfl
@[simp] theorem setIy_iy (v : Word) : (s.setIy v).iy = v := rfl
@[simp] theorem setIy_sp (v : Word) : (s.setIy v).sp = s.sp := rfl
@[simp] theorem setIy_pc (v : Word) : (s.setIy v).pc = s.pc := rfl
@[simp] theorem setIy_i (v : Word) : (s.setIy v).i = s.i := rfl
@[simp] theorem setIy_r (v : Word) : (s.setIy v).r = s.r := rfl
@[simp] theorem setIy_iff1 (v : Word) : (s.setIy v).iff1 = s.iff1 := rfl
@[simp] theorem setIy_iff2 (v : Word) : (s.setIy v).iff2 = s.iff2 := rfl
@[simp] theorem setIy_im (v : Word) : (s.setIy v).im = s.im := rfl
@[simp] theorem setIy_haltSt (v : Word) : (s.setIy v).haltSt = s.haltSt := rfl
@[simp] theorem setIy_eiSt (v : Word) : (s.setIy v).eiSt = s.eiSt := rfl
@[simp] theorem setIy_mem (v : Word) : (s.setIy v).mem = s.mem := rfl
@[simp] theorem setIy_cfg (v : Word) : (s.setIy v).cfg = s.cfg := rfl
@[simp] theorem setIy_signals (v : Word) : (s.setIy v).signals = s.signals := rfl
@[simp] theorem setIy_portIn (v : Word) : (s.setIy v).portIn = s.portIn := rfl
@[simp] theorem setIy_bus (v : Word) : (s.setIy v).bus = s.bus := rfl
@[simp] theorem setIy_anyIn (v : Word) : (s.setIy v).anyIn = s.anyIn := rfl
@[simp] theorem setIy_draws (v : Word) : (s.setIy v).draws = s.draws := rfl
@[simp] theorem setIy_returned (v : Word) : (s.setIy v).returned = s.returned := rfl

/-! ### `setSp` -/

@[simp] theorem setSp_main (v : Word) : (s.setSp v).main = s.main := rfl
@[simp] theorem setSp_alt (v : Word) : (s.setSp v).alt = s.alt := rfl
@[simp] theorem setSp_ix (v : Word) : (s.setSp v).ix = s.ix := rfl
@[simp] theorem setSp_iy (v : Word) : (s.setSp v).iy = s.iy := rfl
@[simp] theorem setSp_sp (v : Word) : (s.setSp v).sp = v := rfl
@[simp] theorem setSp_pc (v : Word) : (s.setSp v).pc = s.pc := rfl
@[simp] theorem setSp_i (v : Word) : (s.setSp v).i = s.i := rfl
@[simp] theorem setSp_r (v : Word) : (s.setSp v).r = s.r := rfl
@[simp] theorem setSp_iff1 (v : Word) : (s.setSp v).iff1 = s.iff1 := rfl
@[simp] theorem setSp_iff2 (v : Word) : (s.setSp v).iff2 = s.iff2 := rfl
@[simp] theorem setSp_im (v : Word) : (s.setSp v).im = s.im := rfl
@[simp] theorem setSp_haltSt (v : Word) : (s.setSp v).haltSt = s.haltSt := rfl
@[simp] theorem setSp_eiSt (v : Word) : (s.setSp v).eiSt = s.eiSt := rfl
@[simp] theorem setSp_mem (v : Word) : (s.setSp v).mem = s.mem := rfl
@[simp] theorem setSp_cfg (v : Word) : (s.setSp v).cfg = s.cfg := rfl
@[simp] theorem setSp_signals (v : Word) : (s.setSp v).signals = s.signals := rfl
@[simp] theorem setSp_portIn (v : Word) : (s.setSp v).portIn = s.portIn := rfl
@[simp] theorem setSp_bus (v : Word) : (s.setSp v).bus = s.bus := rfl
@[simp] theorem setSp_anyIn (v : Word) : (s.setSp v).anyIn = s.anyIn := rfl
@[simp] theorem setSp_draws (v : Word) : (s.setSp v).draws = s.draws := rfl
@[simp] theorem setSp_returned (v : Word) : (s.setSp v).returned = s.returned := rfl

/-! ### `setIxh` -/

@[simp] theorem setIxh_main (v : Byte) : (s.setIxh v).main = s.main := rfl
@[simp] theorem setIxh_alt (v : Byte) : (s.setIxh v).alt = s.alt := rfl
@[simp] theorem setIxh_ix (v : Byte) : (s.setIxh v).ix = pair v (lo s.ix) := rfl
@[simp] theorem setIxh_iy (v : Byte) : (s.setIxh v).iy = s.iy := rfl
@[simp] theorem setIxh_sp (v : Byte) : (s.setIxh v).sp = s.sp := rfl
@[simp] theorem setIxh_pc (v : Byte) : (s.setIxh v).pc = s.pc := rfl
@[simp] theorem setIxh_i (v : Byte) : (s.setIxh v).i = s.i := rfl
@[simp] theorem setIxh_r (v : Byte) : (s.setIxh v).r = s.r := rfl
@[simp] theorem setIxh_iff1 (v : Byte) : (s.setIxh v).iff1 = s.iff1 := rfl
@[simp] theorem setIxh_iff2 (v : Byte) : (s.setIxh v).iff2 = s.iff2 := rfl
@[simp] theorem setIxh_im (v : Byte) : (s.setIxh v).im = s.im := rfl
@[simp] theorem setIxh_haltSt (v : Byte) : (s.setIxh v).haltSt = s.haltSt := rfl
@[simp] theorem setIxh_eiSt (v : Byte) : (s.setIxh v).eiSt = s.eiSt := rfl
@[simp] theorem setIxh_mem (v : Byte) : (s.setIxh v).mem = s.mem := rfl
@[simp] theorem setIxh_cfg (v : Byte) : (s.setIxh v).cfg = s.cfg := rfl
@[simp] theorem setIxh_signals (v : Byte) : (s.setIxh v).signals = s.signals := rfl
@[simp] theorem setIxh_portIn (v : Byte) : (s.setIxh v).portIn = s.portIn := rfl
@[simp] theorem setIxh_bus (v : Byte) : (s.setIxh v).bus = s.bus := rfl
@[simp] theorem setIxh_anyIn (v : Byte) : (s.setIxh v).anyIn = s.anyIn := rfl
@[simp] theorem setIxh_draws (v : Byte) : (s.setIxh v).draws = s.draws := rfl
@[simp] theorem setIxh_returned (v : Byte) : (s.setIxh v).returned = s.returned := rfl

/-! ### `setIxl` -/

@[simp] theorem setIxl_main (v : Byte) : (s.setIxl v).main = s.main := rfl
@[simp] theorem setIxl_alt (v : Byte) : (s.setIxl v).alt = s.alt := rfl
@[simp] theorem setIxl_ix (v : Byte) : (s.setIxl v).ix = pair (hi s.ix) v := rfl
@[simp] theorem setIxl_iy (v : Byte) : (s.setIxl v).iy = s.iy := rfl
@[simp] theorem setIxl_sp (v : Byte) : (s.setIxl v).sp = s.sp := rfl
@[simp] theorem setIxl_pc (v : Byte) : (s.setIxl v).pc = s.pc := rfl
@[simp] theorem setIxl_i (v : Byte) : (s.setIxl v).i = s.i := rfl
@[simp] theorem setIxl_r (v : Byte) : (s.setIxl v).r = s.r := rfl
@[simp] theorem setIxl_iff1 (v : Byte) : (s.setIxl v).iff1 = s.iff1 := rfl
@[simp] theorem setIxl_iff2 (v : Byte) : (s.setIxl v).iff2 = s.iff2 := rfl
@[simp] theorem setIxl_im (v : Byte) : (s.setIxl v).im = s.im := rfl
@[simp] theorem setIxl_haltSt (v : Byte) : (s.setIxl v).haltSt = s.haltSt := rfl
@[simp] theorem setIxl_eiSt (v : Byte) : (s.setIxl v).eiSt = s.eiSt := rfl
@[simp] theorem setIxl_mem (v : Byte) : (s.setIxl v).mem = s.mem := rfl
@[simp] theorem setIxl_cfg (v : Byte) : (s.setIxl v).cfg = s.cfg := rfl
@[simp] theorem setIxl_signals (v : Byte) : (s.setIxl v).signals = s.signals := rfl
@[simp] theorem setIxl_portIn (v : Byte) : (s.setIxl v).portIn = s.portIn := rfl
@[simp] theorem setIxl_bus (v : Byte) : (s.setIxl v).bus = s.bus := rfl
@[simp] theorem setIxl_anyIn (v : Byte) : (s.setIxl v).anyIn = s.anyIn := rfl
@[simp] theorem setIxl_draws (v : Byte) : (s.setIxl v).draws = s.draws := rfl
@[simp] theorem setIxl_returned (v : Byte) : (s.setIxl v).returned = s.returned := rfl

/-! ### `setIyh` -/

@[simp] theorem setIyh_main (v : Byte) : (s.setIyh v).main = s.main := rfl
@[simp] theorem setIyh_alt (v : Byte) : (s.setIyh v).alt = s.alt := rfl
@[simp] theorem setIyh_ix (v : Byte) : (s.setIyh v).ix = s.ix := rfl
@[simp] theorem setIyh_iy (v : Byte) : (s.setIyh v).iy = pair v (lo s.iy) := rfl
@[simp] theorem setIyh_sp (v : Byte) : (s.setIyh v).sp = s.sp := rfl
@[simp] theorem setIyh_pc (v : Byte) : (s.setIyh v).pc = s.pc := rfl
@[simp] theorem setIyh_i (v : Byte) : (s.setIyh v).i = s.i := rfl
@[simp] theorem setIyh_r (v : Byte) : (s.setIyh v).r = s.r := rfl
@[simp] theorem setIyh_iff1 (v : Byte) : (s.setIyh v).iff1 = s.iff1 := rfl
@[simp] theorem setIyh_iff2 (v : Byte) : (s.setIyh v).iff2 = s.iff2 := rfl
@[simp] theorem setIyh_im (v : Byte) : (s.setIyh v).im = s.im := rfl
@[simp] theorem setIyh_haltSt (v : Byte) : (s.setIyh v).haltSt = s.haltSt := rfl
@[simp] theorem setIyh_eiSt (v : Byte) : (s.setIyh v).eiSt = s.eiSt := rfl
@[simp] theorem setIyh_mem (v : Byte) : (s.setIyh v).mem = s.mem := rfl
@[simp] theorem setIyh_cfg (v : Byte) : (s.setIyh v).cfg = s.cfg := rfl
@[simp] theorem setIyh_signals (v : Byte) : (s.setIyh v).signals = s.signals := rfl
@[simp] theorem setIyh_portIn (v : Byte) : (s.setIyh v).portIn = s.portIn := rfl
@[simp] theorem setIyh_bus (v : Byte) : (s.setIyh v).bus = s.bus := rfl
@[simp] theorem setIyh_anyIn (v : Byte) : (s.setIyh v).anyIn = s.anyIn := rfl
@[simp] theorem setIyh_draws (v : Byte) : (s.setIyh v).draws = s.draws := rfl
@[simp] theorem setIyh_returned (v : Byte) : (s.setIyh v).returned = s.returned := rfl

/-! ### `setIyl` -/

@[simp] theorem setIyl_main (v : Byte) : (s.setIyl v).main = s.main := rfl
@[simp] theorem setIyl_alt (v : Byte) : (s.setIyl v).alt = s.alt := rfl
@[simp] theorem setIyl_ix (v : Byte) : (s.setIyl v).ix = s.ix := rfl
@[simp] theorem setIyl_iy (v : Byte) : (s.setIyl v).iy = pair (hi s.iy) v := rfl
@[simp] theorem setIyl_sp (v : Byte) : (s.setIyl v).sp = s.sp := rfl
@[simp] theorem setIyl_pc (v : Byte) : (s.setIyl v).pc = s.pc := rfl
@[simp] theorem setIyl_i (v : Byte) : (s.setIyl v).i = s.i := rfl
@[simp] theorem setIyl_r (v : Byte) : (s.setIyl v).r = s.r := rfl
@[simp] theorem setIyl_iff1 (v : Byte) : (s.setIyl v).iff1 = s.iff1 := rfl
@[simp] theorem setIyl_iff2 (v : Byte) : (s.setIyl v).iff2 = s.iff2 := rfl
@[simp] theorem setIyl_im (v : Byte) : (s.setIyl v).im = s.im := rfl
@[simp] theorem setIyl_haltSt (v : Byte) : (s.setIyl v).haltSt = s.haltSt := rfl
@[simp] theorem setIyl_eiSt (v : Byte) : (s.setIyl v).eiSt = s.eiSt := rfl
@[simp] theorem setIyl_mem (v : Byte) : (s.setIyl v).mem = s.mem := rfl
@[simp] theorem setIyl_cfg (v : Byte) : (s.setIyl v).cfg = s.cfg := rfl
@[simp] theorem setIyl_signals (v : Byte) : (s.setIyl v).signals = s.signals := rfl
@[simp] theorem setIyl_portIn (v : Byte) : (s.setIyl v).portIn = s.portIn := rfl
@[simp] theorem setIyl_bus (v : Byte) : (s.setIyl v).bus = s.bus := rfl
@[simp] theorem setIyl_anyIn (v : Byte) : (s.setIyl v).anyIn = s.anyIn := rfl
@[simp] theorem setIyl_draws (v : Byte) : (s.setIyl v).draws = s.draws := rfl
@[simp] theorem setIyl_returned (v : Byte) : (s.setIyl v).returned = s.returned := rfl

/-! ### `setR8` -/

@[simp] theorem setR8_alt (r : Reg8) (v : Byte) : (s.setR8 r v).alt = s.alt := by cases r <;> rfl
@[simp] theorem setR8_ix (r : Reg8) (v : Byte) : (s.setR8 r v).ix = s.ix := by cases r <;> rfl
@[simp] theorem setR8_iy (r : Reg8) (v : Byte) : (s.setR8 r v).iy = s.iy := by cases r <;> rfl
@[simp] theorem setR8_sp (r : Reg8) (v : Byte) : (s.setR8 r v).sp = s.sp := by cases r <;> rfl
@[simp] theorem setR8_pc (r : Reg8) (v : Byte) : (s.setR8 r v).pc = s.pc := by cases r <;> rfl
@[simp] theorem setR8_i (r : Reg8) (v : Byte) : (s.setR8 r v).i = s.i := by cases r <;> rfl
@[simp] theorem setR8_r (r : Reg8) (v : Byte) : (s.setR8 r v).r = s.r := by cases r <;> rfl
@[simp] theorem setR8_iff1 (r : Reg8) (v : Byte) : (s.setR8 r v).iff1 = s.iff1 := by cases r <;> rfl
@[simp] theorem setR8_iff2 (r : Reg8) (v : Byte) : (s.setR8 r v).iff2 = s.iff2 := by cases r <;> rfl
@[simp] theorem setR8_im (r : Reg8) (v : Byte) : (s.setR8 r v).im = s.im := by cases r <;> rfl
@[simp] theorem setR8_haltSt (r : Reg8) (v : Byte) : (s.setR8 r v).haltSt = s.haltSt := by cases r <;> rfl
@[simp] theorem setR8_eiSt (r : Reg8) (v : Byte) : (s.setR8 r v).eiSt = s.eiSt := by cases r <;> rfl
@[simp] theorem setR8_mem (r : Reg8) (v : Byte) : (s.setR8 r v).mem = s.mem := by cases r <;> rfl
@[simp] theorem setR8_cfg (r : Reg8) (v : Byte) : (s.setR8 r v).cfg = s.cfg := by cases r <;> rfl
@[simp] theorem setR8_signals (r : Reg8) (v : Byte) : (s.setR8 r v).signals = s.signals := by cases r <;> rfl
@[simp] theorem setR8_portIn (r : Reg8) (v : Byte) : (s.setR8 r v).portIn = s.portIn := by cases r <;> rfl
@[simp] theorem setR8_bus (r : Reg8) (v : Byte) : (s.setR8 r v).bus = s.bus := by cases r <;> rfl
@[simp] theorem setR8_anyIn (r : Reg8) (v : Byte) : (s.setR8 r v).anyIn = s.anyIn := by cases r <;> rfl
@[simp] theorem setR8_draws (r : Reg8) (v : Byte) : (s.setR8 r v).draws = s.draws := by cases r <;> rfl
@[simp] theorem setR8_returned (r : Reg8) (v : Byte) : (s.setR8 r v).returned = s.returned :=
  by cases r <;> rfl

/-! ### `setP8` -/

@[simp] theorem setP8_alt (r : RegP) (v : Byte) : (s.setP8 r v).alt = s.alt := by cases r <;> rfl
@[simp] theorem setP8_iy (r : RegP) (v : Byte) : (s.setP8 r v).iy = s.iy := by cases r <;> rfl
@[simp] theorem setP8_sp (r : RegP) (v : Byte) : (s.setP8 r v).sp = s.sp := by cases r <;> rfl
@[simp] theorem setP8_pc (r : RegP) (v : Byte) : (s.setP8 r v).pc = s.pc := by cases r <;> rfl
@[simp] theorem setP8_i (r : RegP) (v : Byte) : (s.setP8 r v).i = s.i := by cases r <;> rfl
@[simp] theorem setP8_r (r : RegP) (v : Byte) : (s.setP8 r v).r = s.r := by cases r <;> rfl
@[simp] theorem setP8_iff1 (r : RegP) (v : Byte) : (s.setP8 r v).iff1 = s.iff1 := by cases r <;> rfl
@[simp] theorem setP8_iff2 (r : RegP) (v : Byte) : (s.setP8 r v).iff2 = s.iff2 := by cases r <;> rfl
@[simp] theorem setP8_im (r : RegP) (v : Byte) : (s.setP8 r v).im = s.im := by cases r <;> rfl
@[simp] theorem setP8_haltSt (r : RegP) (v : Byte) : (s.setP8 r v).haltSt = s.haltSt := by cases r <;> rfl
@[simp] theorem setP8_eiSt (r : RegP) (v : Byte) : (s.setP8 r v).eiSt = s.eiSt := by cases r <;> rfl
@[simp] theorem setP8_mem (r : RegP) (v : Byte) : (s.setP8 r v).mem = s.mem := by cases r <;> rfl
@[simp] theorem setP8_cfg (r : RegP) (v : Byte) : (s.setP8 r v).cfg = s.cfg := by cases r <;> rfl
@[simp] theorem setP8_signals (r : RegP) (v : Byte) : (s.setP8 r v).signals = s.signals := by cases r <;> rfl
@[simp] theorem setP8_portIn (r : RegP) (v : Byte) : (s.setP8 r v).portIn = s.portIn := by cases r <;> rfl
@[simp] theorem setP8_bus (r : RegP) (v : Byte) : (s.setP8 r v).bus = s.bus := by cases r <;> rfl
@[simp] theorem setP8_anyIn (r : RegP) (v : Byte) : (s.setP8 r v).anyIn = s.anyIn := by cases r <;> rfl
@[simp] theorem setP8_draws (r : RegP) (v : Byte) : (s.setP8 r v).draws = s.draws := by cases r <;> rfl
@[simp] theorem setP8_returned (r : RegP) (v : Byte) : (s.setP8 r v).returned = s.returned :=
  by cases r <;> rfl

/-! ### `setQ8` -/

@[simp] theorem setQ8_alt (r : RegQ) (v : Byte) : (s.setQ8 r v).alt = s.alt := by cases r <;> rfl
@[simp] theorem setQ8_ix (r : RegQ) (v : Byte) : (s.setQ8 r v).ix = s.ix := by cases r <;> rfl
@[simp] theorem setQ8_sp (r : RegQ) (v : Byte) : (s.setQ8 r v).sp = s.sp := by cases r <;> rfl
@[simp] theorem setQ8_pc (r : RegQ) (v : Byte) : (s.setQ8 r v).pc = s.pc := by cases r <;> rfl
@[simp] theorem setQ8_i (r : RegQ) (v : Byte) : (s.setQ8 r v).i = s.i := by cases r <;> rfl
@[simp] theorem setQ8_r (r : RegQ) (v : Byte) : (s.setQ8 r v).r = s.r := by cases r <;> rfl
@[simp] theorem setQ8_iff1 (r : RegQ) (v : Byte) : (s.setQ8 r v).iff1 = s.iff1 := by cases r <;> rfl
@[simp] theorem setQ8_iff2 (r : RegQ) (v : Byte) : (s.setQ8 r v).iff2 = s.iff2 := by cases r <;> rfl
@[simp] theorem setQ8_im (r : RegQ) (v : Byte) : (s.setQ8 r v).im = s.im := by cases r <;> rfl
@[simp] theorem setQ8_haltSt (r : RegQ) (v : Byte) : (s.setQ8 r v).haltSt = s.haltSt := by cases r <;> rfl
@[simp] theorem setQ8_eiSt (r : RegQ) (v : Byte) : (s.setQ8 r v).eiSt = s.eiSt := by cases r <;> rfl
@[simp] theorem setQ8_mem (r : RegQ) (v : Byte) : (s.setQ8 r v).mem = s.mem := by cases r <;> rfl
@[simp] theorem setQ8_cfg (r : RegQ) (v : Byte) : (s.setQ8 r v).cfg = s.cfg := by cases r <;> rfl
@[simp] theorem setQ8_signals (r : RegQ) (v : Byte) : (s.setQ8 r v).signals = s.signals := by cases r <;> rfl
@[simp] theorem setQ8_portIn (r : RegQ) (v : Byte) : (s.setQ8 r v).portIn = s.portIn := by cases r <;> rfl
@[simp] theorem setQ8_bus (r : RegQ) (v : Byte) : (s.setQ8 r v).bus = s.bus := by cases r <;> rfl
@[simp] theorem setQ8_anyIn (r : RegQ) (v : Byte) : (s.setQ8 r v).anyIn = s.anyIn := by cases r <;> rfl
@[simp] theorem setQ8_draws (r : RegQ) (v : Byte) : (s.setQ8 r v).draws = s.draws := by cases r <;> rfl
@[simp] theorem setQ8_returned (r : RegQ) (v : Byte) : (s.setQ8 r v).returned = s.returned :=
  by cases r <;> rfl

/-! ### `setDd` -/

@[simp] theorem setDd_alt (p : PairDd) (v : Word) : (s.setDd p v).alt = s.alt := by cases p <;> rfl
@[simp] theorem setDd_ix (p : PairDd) (v : Word) : (s.setDd p v).ix = s.ix := by cases p <;> rfl
@[simp] theorem setDd_iy (p : PairDd) (v : Word) : (s.setDd p v).iy = s.iy := by cases p <;> rfl
@[simp] theorem setDd_pc (p : PairDd) (v : Word) : (s.setDd p v).pc = s.pc := by cases p <;> rfl
@[simp] theorem setDd_i (p : PairDd) (v : Word) : (s.setDd p v).i = s.i := by cases p <;> rfl
@[simp] theorem setDd_r (p : PairDd) (v : Word) : (s.setDd p v).r = s.r := by cases p <;> rfl
@[simp] theorem setDd_iff1 (p : PairDd) (v : Word) : (s.setDd p v).iff1 = s.iff1 := by cases p <;> rfl
@[simp] theorem setDd_iff2 (p : PairDd) (v : Word) : (s.setDd p v).iff2 = s.iff2 := by cases p <;> rfl
@[simp] theorem setDd_im (p : PairDd) (v : Word) : (s.setDd p v).im = s.im := by cases p <;> rfl
@[simp] theorem setDd_haltSt (p : PairDd) (v : Word) : (s.setDd p v).haltSt = s.haltSt := by cases p <;> rfl
@[simp] theorem setDd_eiSt (p : PairDd) (v : Word) : (s.setDd p v).eiSt = s.eiSt := by cases p <;> rfl
@[simp] theorem setDd_mem (p : PairDd) (v : Word) : (s.setDd p v).mem = s.mem := by cases p <;> rfl
@[simp] theorem setDd_cfg (p : PairDd) (v : Word) : (s.setDd p v).cfg = s.cfg := by cases p <;> rfl
@[simp] theorem setDd_signals (p : PairDd) (v : Word) : (s.setDd p v).signals = s.signals :=
  by cases p <;> rfl
@[simp] theorem setDd_portIn (p : PairDd) (v : Word) : (s.setDd p v).portIn = s.portIn := by cases p <;> rfl
@[simp] theorem setDd_bus (p : PairDd) (v : Word) : (s.setDd p v).bus = s.bus := by cases p <;> rfl
@[simp] theorem setDd_anyIn (p : PairDd) (v : Word) : (s.setDd p v).anyIn = s.anyIn := by cases p <;> rfl
@[simp] theorem setDd_draws (p : PairDd) (v : Word) : (s.setDd p v).draws = s.draws := by cases p <;> rfl
@[simp] theorem setDd_returned (p : PairDd) (v : Word) : (s.setDd p v).returned = s.returned :=
  by cases p <;> rfl

/-! ### `setQq` -/

@[simp] theorem setQq_alt (p : PairQq) (v : Word) : (s.setQq p v).alt = s.alt := by cases p <;> rfl
@[simp] theorem setQq_ix (p : PairQq) (v : Word) : (s.setQq p v).ix = s.ix := by cases p <;> rfl
@[simp] theorem setQq_iy (p : PairQq) (v : Word) : (s.setQq p v).iy = s.iy := by cases p <;> rfl
@[simp] theorem setQq_sp (p : PairQq) (v : Word) : (s.setQq p v).sp = s.sp := by cases p <;> rfl
@[simp] theorem setQq_pc (p : PairQq) (v : Word) : (s.setQq p v).pc = s.pc := by cases p <;> rfl
@[simp] theorem setQq_i (p : PairQq) (v : Word) : (s.setQq p v).i = s.i := by cases p <;> rfl
@[simp] theorem setQq_r (p : PairQq) (v : Word) : (s.setQq p v).r = s.r := by cases p <;> rfl
@[simp] theorem setQq_iff1 (p : PairQq) (v : Word) : (s.setQq p v).iff1 = s.iff1 := by cases p <;> rfl
@[simp] theorem setQq_iff2 (p : PairQq) (v : Word) : (s.setQq p v).iff2 = s.iff2 := by cases p <;> rfl
@[simp] theorem setQq_im (p : PairQq) (v : Word) : (s.setQq p v).im = s.im := by cases p <;> rfl
@[simp] theorem setQq_haltSt (p : PairQq) (v : Word) : (s.setQq p v).haltSt = s.haltSt := by cases p <;> rfl
@[simp] theorem setQq_eiSt (p : PairQq) (v : Word) : (s.setQq p v).eiSt = s.eiSt := by cases p <;> rfl
@[simp] theorem setQq_mem (p : PairQq) (v : Word) : (s.setQq p v).mem = s.mem := by cases p <;> rfl
@[simp] theorem setQq_cfg (p : PairQq) (v : Word) : (s.setQq p v).cfg = s.cfg := by cases p <;> rfl
@[simp] theorem setQq_signals (p : PairQq) (v : Word) : (s.setQq p v).signals = s.signals :=
  by cases p <;> rfl
@[simp] theorem setQq_portIn (p : PairQq) (v : Word) : (s.setQq p v).portIn = s.portIn := by cases p <;> rfl
@[simp] theorem setQq_bus (p : PairQq) (v : Word) : (s.setQq p v).bus = s.bus := by cases p <;> rfl
@[simp] theorem setQq_anyIn (p : PairQq) (v : Word) : (s.setQq p v).anyIn = s.anyIn := by cases p <;> rfl
@[simp] theorem setQq_draws (p : PairQq) (v : Word) : (s.setQq p v).draws = s.draws := by cases p <;> rfl
@[simp] theorem setQq_returned (p : PairQq) (v : Word) : (s.setQq p v).returned = s.returned :=
  by cases p <;> rfl

/-! ### `record` -/

@[simp] theorem record_main (e : BusAccess) : (s.record e).main = s.main := rfl
@[simp] theorem record_alt (e : BusAccess) : (s.record e).alt = s.alt := rfl
@[simp] theorem record_ix (e : BusAccess) : (s.record e).ix = s.ix := rfl
@[simp] theorem record_iy (e : BusAccess) : (s.record e).iy = s.iy := rfl
@[simp] theorem record_sp (e : BusAccess) : (s.record e).sp = s.sp := rfl
@[simp] theorem record_pc (e : BusAccess) : (s.record e).pc = s.pc := rfl
@[simp] theorem record_i (e : BusAccess) : (s.record e).i = s.i := rfl
@[simp] theorem record_r (e : BusAccess) : (s.record e).r = s.r := rfl
@[simp] theorem record_iff1 (e : BusAccess) : (s.record e).iff1 = s.iff1 := rfl
@[simp] theorem record_iff2 (e : BusAccess) : (s.record e).iff2 = s.iff2 := rfl
@[simp] theorem record_im (e : BusAccess) : (s.record e).im = s.im := rfl
@[simp] theorem record_haltSt (e : BusAccess) : (s.record e).haltSt = s.haltSt := rfl
@[simp] theorem record_eiSt (e : BusAccess) : (s.record e).eiSt = s.eiSt := rfl
@[simp] theorem record_mem (e : BusAccess) : (s.record e).mem = s.mem := rfl
@[simp] theorem record_cfg (e : BusAccess) : (s.record e).cfg = s.cfg := rfl
@[simp] theorem record_signals (e : BusAccess) : (s.record e).signals = s.signals := rfl
@[simp] theorem record_portIn (e : BusAccess) : (s.record e).portIn = s.portIn := rfl
@[simp] theorem record_bus (e : BusAccess) : (s.record e).bus = e :: s.bus := rfl
@[simp] theorem record_anyIn (e : BusAccess) : (s.record e).anyIn = s.anyIn := rfl
@[simp] theorem record_draws (e : BusAccess) : (s.record e).draws = s.draws := rfl
@[simp] theorem record_returned (e : BusAccess) : (s.record e).returned = s.returned := rfl

/-! ### `memRead` -/

@[simp] theorem memRead_main (a : Word) : (s.memRead a).2.main = s.main := rfl
@[simp] theorem memRead_alt (a : Word) : (s.memRead a).2.alt = s.alt := rfl
@[simp] theorem memRead_ix (a : Word) : (s.memRead a).2.ix = s.ix := rfl
@[simp] theorem memRead_iy (a : Word) : (s.memRead a).2.iy = s.iy := rfl
@[simp] theorem memRead_sp (a : Word) : (s.memRead a).2.sp = s.sp := rfl
@[simp] theorem memRead_pc (a : Word) : (s.memRead a).2.pc = s.pc := rfl
@[simp] theorem memRead_i (a : Word) : (s.memRead a).2.i = s.i := rfl
@[simp] theorem memRead_r (a : Word) : (s.memRead a).2.r = s.r := rfl
@[simp] theorem memRead_iff1 (a : Word) : (s.memRead a).2.iff1 = s.iff1 := rfl
@[simp] theorem memRead_iff2 (a : Word) : (s.memRead a).2.iff2 = s.iff2 := rfl
@[simp] theorem memRead_im (a : Word) : (s.memRead a).2.im = s.im := rfl
@[simp] theorem memRead_haltSt (a : Word) : (s.memRead a).2.haltSt = s.haltSt := rfl
@[simp] theorem memRead_eiSt (a : Word) : (s.memRead a).2.eiSt = s.eiSt := rfl
@[simp] theorem memRead_mem (a : Word) : (s.memRead a).2.mem = s.mem := rfl
@[simp] theorem memRead_cfg (a : Word) : (s.memRead a).2.cfg = s.cfg := rfl
@[simp] theorem memRead_signals (a : Word) : (s.memRead a).2.signals = s.signals := rfl
@[simp] theorem memRead_portIn (a : Word) : (s.memRead a).2.portIn = s.portIn := rfl
@[simp] theorem memRead_bus (a : Word) : (s.memRead a).2.bus = .memRead a (s.peek a) :: s.bus := rfl
@[simp] theorem memRead_anyIn (a : Word) : (s.memRead a).2.anyIn = s.anyIn := rfl
@[simp] theorem memRead_draws (a : Word) : (s.memRead a).2.draws = s.draws := rfl
@[simp] theorem memRead_returned (a : Word) : (s.memRead a).2.returned = s.returned := rfl

/-! ### `memWrite` -/

@[simp] theorem memWrite_main (a : Word) (v : Byte) : (s.memWrite a v).main = s.main := rfl
@[simp] theorem memWrite_alt (a : Word) (v : Byte) : (s.memWrite a v).alt = s.alt := rfl
@[simp] theorem memWrite_ix (a : Word) (v : Byte) : (s.memWrite a v).ix = s.ix := rfl
@[simp] theorem memWrite_iy (a : Word) (v : Byte) : (s.memWrite a v).iy = s.iy := rfl
@[simp] theorem memWrite_sp (a : Word) (v : Byte) : (s.memWrite a v).sp = s.sp := rfl
@[simp] theorem memWrite_pc (a : Word) (v : Byte) : (s.memWrite a v).pc = s.pc := rfl
@[simp] theorem memWrite_i (a : Word) (v : Byte) : (s.memWrite a v).i = s.i := rfl
@[simp] theorem memWrite_r (a : Word) (v : Byte) : (s.memWrite a v).r = s.r := rfl
@[simp] theorem memWrite_iff1 (a : Word) (v : Byte) : (s.memWrite a v).iff1 = s.iff1 := rfl
@[simp] theorem memWrite_iff2 (a : Word) (v : Byte) : (s.memWrite a v).iff2 = s.iff2 := rfl
@[simp] theorem memWrite_im (a : Word) (v : Byte) : (s.memWrite a v).im = s.im := rfl
@[simp] theorem memWrite_haltSt (a : Word) (v : Byte) : (s.memWrite a v).haltSt = s.haltSt := rfl
@[simp] theorem memWrite_eiSt (a : Word) (v : Byte) : (s.memWrite a v).eiSt = s.eiSt := rfl
@[simp] theorem memWrite_mem (a : Word) (v : Byte) : (s.memWrite a v).mem = s.mem.write a.toNat v := rfl
@[simp] theorem memWrite_cfg (a : Word) (v : Byte) : (s.memWrite a v).cfg = s.cfg := rfl
@[simp] theorem memWrite_signals (a : Word) (v : Byte) : (s.memWrite a v).signals = s.signals := rfl
@[simp] theorem memWrite_portIn (a : Word) (v : Byte) : (s.memWrite a v).portIn = s.portIn := rfl
@[simp] theorem memWrite_bus (a : Word) (v : Byte) : (s.memWrite a v).bus = .memWrite a v :: s.bus := rfl
@[simp] theorem memWrite_anyIn (a : Word) (v : Byte) : (s.memWrite a v).anyIn = s.anyIn := rfl
@[simp] theorem memWrite_draws (a : Word) (v : Byte) : (s.memWrite a v).draws = s.draws := rfl
@[simp] theorem memWrite_returned (a : Word) (v : Byte) : (s.memWrite a v).returned = s.returned := rfl

/-! ### `memRead16` -/

@[simp] theorem memRead16_main (a : Word) : (s.memRead16 a).2.main = s.main := rfl
@[simp] theorem memRead16_alt (a : Word) : (s.memRead16 a).2.alt = s.alt := rfl
@[simp] theorem memRead16_ix (a : Word) : (s.memRead16 a).2.ix = s.ix := rfl
@[simp] theorem memRead16_iy (a : Word) : (s.memRead16 a).2.iy = s.iy := rfl
@[simp] theorem memRead16_sp (a : Word) : (s.memRead16 a).2.sp = s.sp := rfl
@[simp] theorem memRead16_pc (a : Word) : (s.memRead16 a).2.pc = s.pc := rfl
@[simp] theorem memRead16_i (a : Word) : (s.memRead16 a).2.i = s.i := rfl
@[simp] theorem memRead16_r (a : Word) : (s.memRead16 a).2.r = s.r := rfl
@[simp] theorem memRead16_iff1 (a : Word) : (s.memRead16 a).2.iff1 = s.iff1 := rfl
@[simp] theorem memRead16_iff2 (a : Word) : (s.memRead16 a).2.iff2 = s.iff2 := rfl
@[simp] theorem memRead16_im (a : Word) : (s.memRead16 a).2.im = s.im := rfl
@[simp] theorem memRead16_haltSt (a : Word) : (s.memRead16 a).2.haltSt = s.haltSt := rfl
@[simp] theorem memRead16_eiSt (a : Word) : (s.memRead16 a).2.eiSt = s.eiSt := rfl
@[simp] theorem memRead16_mem (a : Word) : (s.memRead16 a).2.mem = s.mem := rfl
@[simp] theorem memRead16_cfg (a : Word) : (s.memRead16 a).2.cfg = s.cfg := rfl
@[simp] theorem memRead16_signals (a : Word) : (s.memRead16 a).2.signals = s.signals := rfl
@[simp] theorem memRead16_portIn (a : Word) : (s.memRead16 a).2.portIn = s.portIn := rfl
@[simp] theorem memRead16_bus (a : Word) : (s.memRead16 a).2.bus = .memRead (a + 1) (s.peek (a + 1)) :: .memRead a (s.peek a) :: s.bus :=
  rfl
@[simp] theorem memRead16_anyIn (a : Word) : (s.memRead16 a).2.anyIn = s.anyIn := rfl
@[simp] theorem memRead16_draws (a : Word) : (s.memRead16 a).2.draws = s.draws := rfl
@[simp] theorem memRead16_returned (a : Word) : (s.memRead16 a).2.returned = s.returned := rfl

/-! ### `memWrite16` -/

@[simp] theorem memWrite16_main (a v : Word) : (s.memWrite16 a v).main = s.main := rfl
@[simp] theorem memWrite16_alt (a v : Word) : (s.memWrite16 a v).alt = s.alt := rfl
@[simp] theorem memWrite16_ix (a v : Word) : (s.memWrite16 a v).ix = s.ix := rfl
@[simp] theorem memWrite16_iy (a v : Word) : (s.memWrite16 a v).iy = s.iy := rfl
@[simp] theorem memWrite16_sp (a v : Word) : (s.memWrite16 a v).sp = s.sp := rfl
@[simp] theorem memWrite16_pc (a v : Word) : (s.memWrite16 a v).pc = s.pc := rfl
@[simp] theorem memWrite16_i (a v : Word) : (s.memWrite16 a v).i = s.i := rfl
@[simp] theorem memWrite16_r (a v : Word) : (s.memWrite16 a v).r = s.r := rfl
@[simp] theorem memWrite16_iff1 (a v : Word) : (s.memWrite16 a v).iff1 = s.iff1 := rfl
@[simp] theorem memWrite16_iff2 (a v : Word) : (s.memWrite16 a v).iff2 = s.iff2 := rfl
@[simp] theorem memWrite16_im (a v : Word) : (s.memWrite16 a v).im = s.im := rfl
@[simp] theorem memWrite16_haltSt (a v : Word) : (s.memWrite16 a v).haltSt = s.haltSt := rfl
@[simp] theorem memWrite16_eiSt (a v : Word) : (s.memWrite16 a v).eiSt = s.eiSt := rfl
@[simp] theorem memWrite16_mem (a v : Word) : (s.memWrite16 a v).mem = (s.mem.write a.toNat (lo v)).write (a + 1).toNat (hi v) :=
  rfl
@[simp] theorem memWrite16_cfg (a v : Word) : (s.memWrite16 a v).cfg = s.cfg := rfl
@[simp] theorem memWrite16_signals (a v : Word) : (s.memWrite16 a v).signals = s.signals := rfl
@[simp] theorem memWrite16_portIn (a v : Word) : (s.memWrite16 a v).portIn = s.portIn := rfl
@[simp] theorem memWrite16_bus (a v : Word) : (s.memWrite16 a v).bus = .memWrite (a + 1) (hi v) :: .memWrite a (lo v) :: s.bus :=
  rfl
@[simp] theorem memWrite16_anyIn (a v : Word) : (s.memWrite16 a v).anyIn = s.anyIn := rfl
@[simp] theorem memWrite16_draws (a v : Word) : (s.memWrite16 a v).draws = s.draws := rfl
@[simp] theorem memWrite16_returned (a v : Word) : (s.memWrite16 a v).returned = s.returned := rfl

/-! ### `portRead` -/

@[simp] theorem portRead_main (p : Word) : (s.portRead p).2.main = s.main := rfl
@[simp] theorem portRead_alt (p : Word) : (s.portRead p).2.alt = s.alt := rfl
@[simp] theorem portRead_ix (p : Word) : (s.portRead p).2.ix = s.ix := rfl
@[simp] theorem portRead_iy (p : Word) : (s.portRead p).2.iy = s.iy := rfl
@[simp] theorem portRead_sp (p : Word) : (s.portRead p).2.sp = s.sp := rfl
@[simp] theorem portRead_pc (p : Word) : (s.portRead p).2.pc = s.pc := rfl
@[simp] theorem portRead_i (p : Word) : (s.portRead p).2.i = s.i := rfl
@[simp] theorem portRead_r (p : Word) : (s.portRead p).2.r = s.r := rfl
@[simp] theorem portRead_iff1 (p : Word) : (s.portRead p).2.iff1 = s.iff1 := rfl
@[simp] theorem portRead_iff2 (p : Word) : (s.portRead p).2.iff2 = s.iff2 := rfl
@[simp] theorem portRead_im (p : Word) : (s.portRead p).2.im = s.im := rfl
@[simp] theorem portRead_haltSt (p : Word) : (s.portRead p).2.haltSt = s.haltSt := rfl
@[simp] theorem portRead_eiSt (p : Word) : (s.portRead p).2.eiSt = s.eiSt := rfl
@[simp] theorem portRead_mem (p : Word) : (s.portRead p).2.mem = s.mem := rfl
@[simp] theorem portRead_cfg (p : Word) : (s.portRead p).2.cfg = s.cfg := rfl
@[simp] theorem portRead_signals (p : Word) : (s.portRead p).2.signals = s.signals := rfl
@[simp] theorem portRead_portIn (p : Word) : (s.portRead p).2.portIn = s.portIn.tail := rfl
@[simp] theorem portRead_bus (p : Word) : (s.portRead p).2.bus = .portRead p (s.portAnswer p) :: s.bus := rfl
@[simp] theorem portRead_anyIn (p : Word) : (s.portRead p).2.anyIn = s.anyIn := rfl
@[simp] theorem portRead_draws (p : Word) : (s.portRead p).2.draws = s.draws + 1 := rfl
@[simp] theorem portRead_returned (p : Word) : (s.portRead p).2.returned = s.returned := rfl

/-! ### `portWrite` -/

@[simp] theorem portWrite_main (p : Word) (v : Byte) : (s.portWrite p v).main = s.main := rfl
@[simp] theorem portWrite_alt (p : Word) (v : Byte) : (s.portWrite p v).alt = s.alt := rfl
@[simp] theorem portWrite_ix (p : Word) (v : Byte) : (s.portWrite p v).ix = s.ix := rfl
@[simp] theorem portWrite_iy (p : Word) (v : Byte) : (s.portWrite p v).iy = s.iy := rfl
@[simp] theorem portWrite_sp (p : Word) (v : Byte) : (s.portWrite p v).sp = s.sp := rfl
@[simp] theorem portWrite_pc (p : Word) (v : Byte) : (s.portWrite p v).pc = s.pc := rfl
@[simp] theorem portWrite_i (p : Word) (v : Byte) : (s.portWrite p v).i = s.i := rfl
@[simp] theorem portWrite_r (p : Word) (v : Byte) : (s.portWrite p v).r = s.r := rfl
@[simp] theorem portWrite_iff1 (p : Word) (v : Byte) : (s.portWrite p v).iff1 = s.iff1 := rfl
@[simp] theorem portWrite_iff2 (p : Word) (v : Byte) : (s.portWrite p v).iff2 = s.iff2 := rfl
@[simp] theorem portWrite_im (p : Word) (v : Byte) : (s.portWrite p v).im = s.im := rfl
@[simp] theorem portWrite_haltSt (p : Word) (v : Byte) : (s.portWrite p v).haltSt = s.haltSt := rfl
@[simp] theorem portWrite_eiSt (p : Word) (v : Byte) : (s.portWrite p v).eiSt = s.eiSt := rfl
@[simp] theorem portWrite_mem (p : Word) (v : Byte) : (s.portWrite p v).mem = s.mem := rfl
@[simp] theorem portWrite_cfg (p : Word) (v : Byte) : (s.portWrite p v).cfg = s.cfg := rfl
@[simp] theorem portWrite_signals (p : Word) (v : Byte) : (s.portWrite p v).signals = s.signals := rfl
@[simp] theorem portWrite_portIn (p : Word) (v : Byte) : (s.portWrite p v).portIn = s.portIn := rfl
@[simp] theorem portWrite_bus (p : Word) (v : Byte) : (s.portWrite p v).bus = .portWrite p v :: s.bus := rfl
@[simp] theorem portWrite_anyIn (p : Word) (v : Byte) : (s.portWrite p v).anyIn = s.anyIn := rfl
@[simp] theorem portWrite_draws (p : Word) (v : Byte) : (s.portWrite p v).draws = s.draws := rfl
@[simp] theorem portWrite_returned (p : Word) (v : Byte) : (s.portWrite p v).returned = s.returned := rfl

/-! ### `push16` -/

@[simp] theorem push16_main (v : Word) : (s.push16 v).main = s.main := rfl
@[simp] theorem push16_alt (v : Word) : (s.push16 v).alt = s.alt := rfl
@[simp] theorem push16_ix (v : Word) : (s.push16 v).ix = s.ix := rfl
@[simp] theorem push16_iy (v : Word) : (s.push16 v).iy = s.iy := rfl
@[simp] theorem push16_sp (v : Word) : (s.push16 v).sp = s.sp - 2 := rfl
@[simp] theorem push16_pc (v : Word) : (s.push16 v).pc = s.pc := rfl
@[simp] theorem push16_i (v : Word) : (s.push16 v).i = s.i := rfl
@[simp] theorem push16_r (v : Word) : (s.push16 v).r = s.r := rfl
@[simp] theorem push16_iff1 (v : Word) : (s.push16 v).iff1 = s.iff1 := rfl
@[simp] theorem push16_iff2 (v : Word) : (s.push16 v).iff2 = s.iff2 := rfl
@[simp] theorem push16_im (v : Word) : (s.push16 v).im = s.im := rfl
@[simp] theorem push16_haltSt (v : Word) : (s.push16 v).haltSt = s.haltSt := rfl
@[simp] theorem push16_eiSt (v : Word) : (s.push16 v).eiSt = s.eiSt := rfl
@[simp] theorem push16_mem (v : Word) : (s.push16 v).mem = (s.mem.write (s.sp - 1).toNat (hi v)).write (s.sp - 2).toNat (lo v) :=
  rfl
@[simp] theorem push16_cfg (v : Word) : (s.push16 v).cfg = s.cfg := rfl
@[simp] theorem push16_signals (v : Word) : (s.push16 v).signals = s.signals := rfl
@[simp] theorem push16_portIn (v : Word) : (s.push16 v).portIn = s.portIn := rfl
@[simp] theorem push16_bus (v : Word) : (s.push16 v).bus = .memWrite (s.sp - 2) (lo v) :: .memWrite (s.sp - 1) (hi v) :: s.bus :=
  rfl
@[simp] theorem push16_anyIn (v : Word) : (s.push16 v).anyIn = s.anyIn := rfl
@[simp] theorem push16_draws (v : Word) : (s.push16 v).draws = s.draws := rfl
@[simp] theorem push16_returned (v : Word) : (s.push16 v).returned = s.returned := rfl

/-! ### `pop16` -/

@[simp] theorem pop16_main : (s.pop16).2.main = s.main := rfl
@[simp] theorem pop16_alt : (s.pop16).2.alt = s.alt := rfl
@[simp] theorem pop16_ix : (s.pop16).2.ix = s.ix := rfl
@[simp] theorem pop16_iy : (s.pop16).2.iy = s.iy := rfl
@[simp] theorem pop16_sp : (s.pop16).2.sp = s.sp + 2 := rfl
@[simp] theorem pop16_pc : (s.pop16).2.pc = s.pc := rfl
@[simp] theorem pop16_i : (s.pop16).2.i = s.i := rfl
@[simp] theorem pop16_r : (s.pop16).2.r = s.r := rfl
@[simp] theorem pop16_iff1 : (s.pop16).2.iff1 = s.iff1 := rfl
@[simp] theorem pop16_iff2 : (s.pop16).2.iff2 = s.iff2 := rfl
@[simp] theorem pop16_im : (s.pop16).2.im = s.im := rfl
@[simp] theorem pop16_haltSt : (s.pop16).2.haltSt = s.haltSt := rfl
@[simp] theorem pop16_eiSt : (s.pop16).2.eiSt = s.eiSt := rfl
@[simp] theorem pop16_mem : (s.pop16).2.mem = s.mem := rfl
@[simp] theorem pop16_cfg : (s.pop16).2.cfg = s.cfg := rfl
@[simp] theorem pop16_signals : (s.pop16).2.signals = s.signals := rfl
@[simp] theorem pop16_portIn : (s.pop16).2.portIn = s.portIn := rfl
@[simp] theorem pop16_bus : (s.pop16).2.bus = .memRead (s.sp + 1) (s.peek (s.sp + 1)) :: .memRead s.sp (s.peek s.sp) :: s.bus :=
  rfl
@[simp] theorem pop16_anyIn : (s.pop16).2.anyIn = s.anyIn := rfl
@[simp] theorem pop16_draws : (s.pop16).2.draws = s.draws := rfl
@[simp] theorem pop16_returned : (s.pop16).2.returned = s.returned := rfl

/-! ### `jump` -/

@[simp] theorem jump_main (t : Word) (n : Nat) : (s.jump t n).main = s.main := rfl
@[simp] theorem jump_alt (t : Word) (n : Nat) : (s.jump t n).alt = s.alt := rfl
@[simp] theorem jump_ix (t : Word) (n : Nat) : (s.jump t n).ix = s.ix := rfl
@[simp] theorem jump_iy (t : Word) (n : Nat) : (s.jump t n).iy = s.iy := rfl
@[simp] theorem jump_sp (t : Word) (n : Nat) : (s.jump t n).sp = s.sp := rfl
@[simp] theorem jump_pc (t : Word) (n : Nat) : (s.jump t n).pc = t := rfl
@[simp] theorem jump_i (t : Word) (n : Nat) : (s.jump t n).i = s.i := rfl
@[simp] theorem jump_r (t : Word) (n : Nat) : (s.jump t n).r = s.r := rfl
@[simp] theorem jump_iff1 (t : Word) (n : Nat) : (s.jump t n).iff1 = s.iff1 := rfl
@[simp] theorem jump_iff2 (t : Word) (n : Nat) : (s.jump t n).iff2 = s.iff2 := rfl
@[simp] theorem jump_im (t : Word) (n : Nat) : (s.jump t n).im = s.im := rfl
@[simp] theorem jump_haltSt (t : Word) (n : Nat) : (s.jump t n).haltSt = s.haltSt := rfl
@[simp] theorem jump_eiSt (t : Word) (n : Nat) : (s.jump t n).eiSt = s.eiSt := rfl
@[simp] theorem jump_mem (t : Word) (n : Nat) : (s.jump t n).mem = s.mem := rfl
@[simp] theorem jump_cfg (t : Word) (n : Nat) : (s.jump t n).cfg = s.cfg := rfl
@[simp] theorem jump_signals (t : Word) (n : Nat) : (s.jump t n).signals = s.signals := rfl
@[simp] theorem jump_portIn (t : Word) (n : Nat) : (s.jump t n).portIn = s.portIn := rfl
@[simp] theorem jump_bus (t : Word) (n : Nat) : (s.jump t n).bus = s.bus := rfl
@[simp] theorem jump_anyIn (t : Word) (n : Nat) : (s.jump t n).anyIn = s.anyIn := rfl
@[simp] theorem jump_draws (t : Word) (n : Nat) : (s.jump t n).draws = s.draws := rfl
@[simp] theorem jump_returned (t : Word) (n : Nat) : (s.jump t n).returned = n := rfl

/-! ### `finish` -/

@[simp] theorem finish_main (len n : Nat) : (s.finish len n).main = s.main := rfl
@[simp] theorem finish_alt (len n : Nat) : (s.finish len n).alt = s.alt := rfl
@[simp] theorem finish_ix (len n : Nat) : (s.finish len n).ix = s.ix := rfl
@[simp] theorem finish_iy (len n : Nat) : (s.finish len n).iy = s.iy := rfl
@[simp] theorem finish_sp (len n : Nat) : (s.finish len n).sp = s.sp := rfl
@[simp] theorem finish_pc (len n : Nat) : (s.finish len n).pc = s.pc + BitVec.ofNat 16 len := rfl
@[simp] theorem finish_i (len n : Nat) : (s.finish len n).i = s.i := rfl
@[simp] theorem finish_r (len n : Nat) : (s.finish len n).r = s.r := rfl
@[simp] theorem finish_iff1 (len n : Nat) : (s.finish len n).iff1 = s.iff1 := rfl
@[simp] theorem finish_iff2 (len n : Nat) : (s.finish len n).iff2 = s.iff2 := rfl
@[simp] theorem finish_im (len n : Nat) : (s.finish len n).im = s.im := rfl
@[simp] theorem finish_haltSt (len n : Nat) : (s.finish len n).haltSt = s.haltSt := rfl
@[simp] theorem finish_eiSt (len n : Nat) : (s.finish len n).eiSt = s.eiSt := rfl
@[simp] theorem finish_mem (len n : Nat) : (s.finish len n).mem = s.mem := rfl
@[simp] theorem finish_cfg (len n : Nat) : (s.finish len n).cfg = s.cfg := rfl
@[simp] theorem finish_signals (len n : Nat) : (s.finish len n).signals = s.signals := rfl
@[simp] theorem finish_portIn (len n : Nat) : (s.finish len n).portIn = s.portIn := rfl
@[simp] theorem finish_bus (len n : Nat) : (s.finish len n).bus = s.bus := rfl
@[simp] theorem finish_anyIn (len n : Nat) : (s.finish len n).anyIn = s.anyIn := rfl
@[simp] theorem finish_draws (len n : Nat) : (s.finish len n).draws = s.draws := rfl
@[simp] theorem finish_returned (len n : Nat) : (s.finish len n).returned = n := rfl

/-! ### `hold` -/

@[simp] theorem hold_main (n : Nat) : (s.hold n).main = s.main := rfl
@[simp] theorem hold_alt (n : Nat) : (s.hold n).alt = s.alt := rfl
@[simp] theorem hold_ix (n : Nat) : (s.hold n).ix = s.ix := rfl
@[simp] theorem hold_iy (n : Nat) : (s.hold n).iy = s.iy := rfl
@[simp] theorem hold_sp (n : Nat) : (s.hold n).sp = s.sp := rfl
@[simp] theorem hold_pc (n : Nat) : (s.hold n).pc = s.pc := rfl
@[simp] theorem hold_i (n : Nat) : (s.hold n).i = s.i := rfl
@[simp] theorem hold_r (n : Nat) : (s.hold n).r = s.r := rfl
@[simp] theorem hold_iff1 (n : Nat) : (s.hold n).iff1 = s.iff1 := rfl
@[simp] theorem hold_iff2 (n : Nat) : (s.hold n).iff2 = s.iff2 := rfl
@[simp] theorem hold_im (n : Nat) : (s.hold n).im = s.im := rfl
@[simp] theorem hold_haltSt (n : Nat) : (s.hold n).haltSt = s.haltSt := rfl
@[simp] theorem hold_eiSt (n : Nat) : (s.hold n).eiSt = s.eiSt := rfl
@[simp] theorem hold_mem (n : Nat) : (s.hold n).mem = s.mem := rfl
@[simp] theorem hold_cfg (n : Nat) : (s.hold n).cfg = s.cfg := rfl
@[simp] theorem hold_signals (n : Nat) : (s.hold n).signals = s.signals := rfl
@[simp] theorem hold_portIn (n : Nat) : (s.hold n).portIn = s.portIn := rfl
@[simp] theorem hold_bus (n : Nat) : (s.hold n).bus = s.bus := rfl
@[simp] theorem hold_anyIn (n : Nat) : (s.hold n).anyIn = s.anyIn := rfl
@[simp] theorem hold_draws (n : Nat) : (s.hold n).draws = s.draws := rfl
@[simp] theorem hold_returned (n : Nat) : (s.hold n).returned = n := rfl

/-! ### `drawn` -/

@[simp] theorem drawn_main : (s.drawn).main = s.main := rfl
@[simp] theorem drawn_alt : (s.drawn).alt = s.alt := rfl
@[simp] theorem drawn_ix : (s.drawn).ix = s.ix := rfl
@[simp] theorem drawn_iy : (s.drawn).iy = s.iy := rfl
@[simp] theorem drawn_sp : (s.drawn).sp = s.sp := rfl
@[simp] theorem drawn_pc : (s.drawn).pc = s.pc := rfl
@[simp] theorem drawn_i : (s.drawn).i = s.i := rfl
@[simp] theorem drawn_r : (s.drawn).r = s.r := rfl
@[simp] theorem drawn_iff1 : (s.drawn).iff1 = s.iff1 := rfl
@[simp] theorem drawn_iff2 : (s.drawn).iff2 = s.iff2 := rfl
@[simp] theorem drawn_im : (s.drawn).im = s.im := rfl
@[simp] theorem drawn_haltSt : (s.drawn).haltSt = s.haltSt := rfl
@[simp] theorem drawn_eiSt : (s.drawn).eiSt = s.eiSt := rfl
@[simp] theorem drawn_mem : (s.drawn).mem = s.mem := rfl
@[simp] theorem drawn_cfg : (s.drawn).cfg = s.cfg := rfl
@[simp] theorem drawn_signals : (s.drawn).signals = s.signals := rfl
@[simp] theorem drawn_portIn : (s.drawn).portIn = s.portIn := rfl
@[simp] theorem drawn_bus : (s.drawn).bus = s.bus := rfl
@[simp] theorem drawn_anyIn : (s.drawn).anyIn = s.anyIn.tail := rfl
@[simp] theorem drawn_draws : (s.drawn).draws = s.draws + 1 := rfl
@[simp] theorem drawn_returned : (s.drawn).returned = s.returned := rfl

/-! ### `putFlags` -/

@[simp] theorem putFlags_main (f : Flags) : (s.putFlags f).main = { s.main with f := withAnyXY f s.nextDraw } :=
  rfl
@[simp] theorem putFlags_alt (f : Flags) : (s.putFlags f).alt = s.alt := rfl
@[simp] theorem putFlags_ix (f : Flags) : (s.putFlags f).ix = s.ix := rfl
@[simp] theorem putFlags_iy (f : Flags) : (s.putFlags f).iy = s.iy := rfl
@[simp] theorem putFlags_sp (f : Flags) : (s.putFlags f).sp = s.sp := rfl
@[simp] theorem putFlags_pc (f : Flags) : (s.putFlags f).pc = s.pc := rfl
@[simp] theorem putFlags_i (f : Flags) : (s.putFlags f).i = s.i := rfl
@[simp] theorem putFlags_r (f : Flags) : (s.putFlags f).r = s.r := rfl
@[simp] theorem putFlags_iff1 (f : Flags) : (s.putFlags f).iff1 = s.iff1 := rfl
@[simp] theorem putFlags_iff2 (f : Flags) : (s.putFlags f).iff2 = s.iff2 := rfl
@[simp] theorem putFlags_im (f : Flags) : (s.putFlags f).im = s.im := rfl
@[simp] theorem putFlags_haltSt (f : Flags) : (s.putFlags f).haltSt = s.haltSt := rfl
@[simp] theorem putFlags_eiSt (f : Flags) : (s.putFlags f).eiSt = s.eiSt := rfl
@[simp] theorem putFlags_mem (f : Flags) : (s.putFlags f).mem = s.mem := rfl
@[simp] theorem putFlags_cfg (f : Flags) : (s.putFlags f).cfg = s.cfg := rfl
@[simp] theorem putFlags_signals (f : Flags) : (s.putFlags f).signals = s.signals := rfl
@[simp] theorem putFlags_portIn (f : Flags) : (s.putFlags f).portIn = s.portIn := rfl
@[simp] theorem putFlags_bus (f : Flags) : (s.putFlags f).bus = s.bus := rfl
@[simp] theorem putFlags_anyIn (f : Flags) : (s.putFlags f).anyIn = s.anyIn.tail := rfl
@[simp] theorem putFlags_draws (f : Flags) : (s.putFlags f).draws = s.draws + 1 := rfl
@[simp] theorem putFlags_returned (f : Flags) : (s.putFlags f).returned = s.returned := rfl

/-! ### `putFlagsAnyHPv` -/

@[simp] theorem putFlagsAnyHPv_main (f : Flags) : (s.putFlagsAnyHPv f).main = { s.main with f := withAnyXYHPv f s.nextDraw } :=
  rfl
@[simp] theorem putFlagsAnyHPv_alt (f : Flags) : (s.putFlagsAnyHPv f).alt = s.alt := rfl
@[simp] theorem putFlagsAnyHPv_ix (f : Flags) : (s.putFlagsAnyHPv f).ix = s.ix := rfl
@[simp] theorem putFlagsAnyHPv_iy (f : Flags) : (s.putFlagsAnyHPv f).iy = s.iy := rfl
@[simp] theorem putFlagsAnyHPv_sp (f : Flags) : (s.putFlagsAnyHPv f).sp = s.sp := rfl
@[simp] theorem putFlagsAnyHPv_pc (f : Flags) : (s.putFlagsAnyHPv f).pc = s.pc := rfl
@[simp] theorem putFlagsAnyHPv_i (f : Flags) : (s.putFlagsAnyHPv f).i = s.i := rfl
@[simp] theorem putFlagsAnyHPv_r (f : Flags) : (s.putFlagsAnyHPv f).r = s.r := rfl
@[simp] theorem putFlagsAnyHPv_iff1 (f : Flags) : (s.putFlagsAnyHPv f).iff1 = s.iff1 := rfl
@[simp] theorem putFlagsAnyHPv_iff2 (f : Flags) : (s.putFlagsAnyHPv f).iff2 = s.iff2 := rfl
@[simp] theorem putFlagsAnyHPv_im (f : Flags) : (s.putFlagsAnyHPv f).im = s.im := rfl
@[simp] theorem putFlagsAnyHPv_haltSt (f : Flags) : (s.putFlagsAnyHPv f).haltSt = s.haltSt := rfl
@[simp] theorem putFlagsAnyHPv_eiSt (f : Flags) : (s.putFlagsAnyHPv f).eiSt = s.eiSt := rfl
@[simp] theorem putFlagsAnyHPv_mem (f : Flags) : (s.putFlagsAnyHPv f).mem = s.mem := rfl
@[simp] theorem putFlagsAnyHPv_cfg (f : Flags) : (s.putFlagsAnyHPv f).cfg = s.cfg := rfl
@[simp] theorem putFlagsAnyHPv_signals (f : Flags) : (s.putFlagsAnyHPv f).signals = s.signals := rfl
@[simp] theorem putFlagsAnyHPv_portIn (f : Flags) : (s.putFlagsAnyHPv f).portIn = s.portIn := rfl
@[simp] theorem putFlagsAnyHPv_bus (f : Flags) : (s.putFlagsAnyHPv f).bus = s.bus := rfl
@[simp] theorem putFlagsAnyHPv_anyIn (f : Flags) : (s.putFlagsAnyHPv f).anyIn = s.anyIn.tail := rfl
@[simp] theorem putFlagsAnyHPv_draws (f : Flags) : (s.putFlagsAnyHPv f).draws = s.draws + 1 := rfl
@[simp] theorem putFlagsAnyHPv_returned (f : Flags) : (s.putFlagsAnyHPv f).returned = s.returned := rfl

/-! ### `enter` -/

@[simp] theorem enter_main (v : Word) : (s.enter v).main = s.main := rfl
@[simp] theorem enter_alt (v : Word) : (s.enter v).alt = s.alt := rfl
@[simp] theorem enter_ix (v : Word) : (s.enter v).ix = s.ix := rfl
@[simp] theorem enter_iy (v : Word) : (s.enter v).iy = s.iy := rfl
@[simp] theorem enter_sp (v : Word) : (s.enter v).sp = s.sp - 2 := rfl
@[simp] theorem enter_pc (v : Word) : (s.enter v).pc = v := rfl
@[simp] theorem enter_i (v : Word) : (s.enter v).i = s.i := rfl
@[simp] theorem enter_r (v : Word) : (s.enter v).r = s.r := rfl
@[simp] theorem enter_iff1 (v : Word) : (s.enter v).iff1 = s.iff1 := rfl
@[simp] theorem enter_iff2 (v : Word) : (s.enter v).iff2 = s.iff2 := rfl
@[simp] theorem enter_im (v : Word) : (s.enter v).im = s.im := rfl
@[simp] theorem enter_haltSt (v : Word) : (s.enter v).haltSt = s.haltSt := rfl
@[simp] theorem enter_eiSt (v : Word) : (s.enter v).eiSt = s.eiSt := rfl
@[simp] theorem enter_mem (v : Word) : (s.enter v).mem = (s.mem.write (s.sp - 1).toNat (hi s.pc)).write (s.sp - 2).toNat (lo s.pc) :=
  rfl
@[simp] theorem enter_cfg (v : Word) : (s.enter v).cfg = s.cfg := rfl
@[simp] theorem enter_signals (v : Word) : (s.enter v).signals = s.signals := rfl
@[simp] theorem enter_portIn (v : Word) : (s.enter v).portIn = s.portIn := rfl
@[simp] theorem enter_bus (v : Word) : (s.enter v).bus = .memWrite (s.sp - 2) (lo s.pc) :: .memWrite (s.sp - 1) (hi s.pc) :: s.bus :=
  rfl
@[simp] theorem enter_anyIn (v : Word) : (s.enter v).anyIn = s.anyIn := rfl
@[simp] theorem enter_draws (v : Word) : (s.enter v).draws = s.draws := rfl
@[simp] theorem enter_returned (v : Word) : (s.enter v).returned = s.returned := rfl

/-! ### `ret` -/

@[simp] theorem ret_main (n : Nat) : (s.ret n).main = s.main := rfl
@[simp] theorem ret_alt (n : Nat) : (s.ret n).alt = s.alt := rfl
@[simp] theorem ret_ix (n : Nat) : (s.ret n).ix = s.ix := rfl
@[simp] theorem ret_iy (n : Nat) : (s.ret n).iy = s.iy := rfl
@[simp] theorem ret_sp (n : Nat) : (s.ret n).sp = s.sp + 2 := rfl
@[simp] theorem ret_pc (n : Nat) : (s.ret n).pc = pair (s.peek (s.sp + 1)) (s.peek s.sp) := rfl
@[simp] theorem ret_i (n : Nat) : (s.ret n).i = s.i := rfl
@[simp] theorem ret_r (n : Nat) : (s.ret n).r = s.r := rfl
@[simp] theorem ret_iff1 (n : Nat) : (s.ret n).iff1 = s.iff1 := rfl
@[simp] theorem ret_iff2 (n : Nat) : (s.ret n).iff2 = s.iff2 := rfl
@[simp] theorem ret_im (n : Nat) : (s.ret n).im = s.im := rfl
@[simp] theorem ret_haltSt (n : Nat) : (s.ret n).haltSt = s.haltSt := rfl
@[simp] theorem ret_eiSt (n : Nat) : (s.ret n).eiSt = s.eiSt := rfl
@[simp] theorem ret_mem (n : Nat) : (s.ret n).mem = s.mem := rfl
@[simp] theorem ret_cfg (n : Nat) : (s.ret n).cfg = s.cfg := rfl
@[simp] theorem ret_signals (n : Nat) : (s.ret n).signals = s.signals := rfl
@[simp] theorem ret_portIn (n : Nat) : (s.ret n).portIn = s.portIn := rfl
@[simp] theorem ret_bus (n : Nat) : (s.ret n).bus = .memRead (s.sp + 1) (s.peek (s.sp + 1)) :: .memRead s.sp (s.peek s.sp) :: s.bus :=
  rfl
@[simp] theorem ret_anyIn (n : Nat) : (s.ret n).anyIn = s.anyIn := rfl
@[simp] theorem ret_draws (n : Nat) : (s.ret n).draws = s.draws := rfl
@[simp] theorem ret_returned (n : Nat) : (s.ret n).returned = n := rfl

/-! ### `advanceR` -/

@[simp] theorem advanceR_main (n : Nat) (b0 : Byte) : (s.advanceR n b0).main = s.main := rfl
@[simp] theorem advanceR_alt (n : Nat) (b0 : Byte) : (s.advanceR n b0).alt = s.alt := rfl
@[simp] theorem advanceR_ix (n : Nat) (b0 : Byte) : (s.advanceR n b0).ix = s.ix := rfl
@[simp] theorem advanceR_iy (n : Nat) (b0 : Byte) : (s.advanceR n b0).iy = s.iy := rfl
@[simp] theorem advanceR_sp (n : Nat) (b0 : Byte) : (s.advanceR n b0).sp = s.sp := rfl
@[simp] theorem advanceR_pc (n : Nat) (b0 : Byte) : (s.advanceR n b0).pc = s.pc := rfl
@[simp] theorem advanceR_i (n : Nat) (b0 : Byte) : (s.advanceR n b0).i = s.i := rfl
@[simp] theorem advanceR_r (n : Nat) (b0 : Byte) : (s.advanceR n b0).r = advance s.r (rIncrement s.cfg.rPolicy n b0) :=
  rfl
@[simp] theorem advanceR_iff1 (n : Nat) (b0 : Byte) : (s.advanceR n b0).iff1 = s.iff1 := rfl
@[simp] theorem advanceR_iff2 (n : Nat) (b0 : Byte) : (s.advanceR n b0).iff2 = s.iff2 := rfl
@[simp] theorem advanceR_im (n : Nat) (b0 : Byte) : (s.advanceR n b0).im = s.im := rfl
@[simp] theorem advanceR_haltSt (n : Nat) (b0 : Byte) : (s.advanceR n b0).haltSt = s.haltSt := rfl
@[simp] theorem advanceR_eiSt (n : Nat) (b0 : Byte) : (s.advanceR n b0).eiSt = s.eiSt := rfl
@[simp] theorem advanceR_mem (n : Nat) (b0 : Byte) : (s.advanceR n b0).mem = s.mem := rfl
@[simp] theorem advanceR_cfg (n : Nat) (b0 : Byte) : (s.advanceR n b0).cfg = s.cfg := rfl
@[simp] theorem advanceR_signals (n : Nat) (b0 : Byte) : (s.advanceR n b0).signals = s.signals := rfl
@[simp] theorem advanceR_portIn (n : Nat) (b0 : Byte) : (s.advanceR n b0).portIn = s.portIn := rfl
@[simp] theorem advanceR_bus (n : Nat) (b0 : Byte) : (s.advanceR n b0).bus = s.bus := rfl
@[simp] theorem advanceR_anyIn (n : Nat) (b0 : Byte) : (s.advanceR n b0).anyIn = s.anyIn := rfl
@[simp] theorem advanceR_draws (n : Nat) (b0 : Byte) : (s.advanceR n b0).draws = s.draws := rfl
@[simp] theorem advanceR_returned (n : Nat) (b0 : Byte) : (s.advanceR n b0).returned = s.returned := rfl

/-! ### `lookAhead` -/

@[simp] theorem lookAhead_main : (s.lookAhead).2.main = s.main := rfl
@[simp] theorem lookAhead_alt : (s.lookAhead).2.alt = s.alt := rfl
@[simp] theorem lookAhead_ix : (s.lookAhead).2.ix = s.ix := rfl
@[simp] theorem lookAhead_iy : (s.lookAhead).2.iy = s.iy := rfl
@[simp] theorem lookAhead_sp : (s.lookAhead).2.sp = s.sp := rfl
@[simp] theorem lookAhead_pc : (s.lookAhead).2.pc = s.pc := rfl
@[simp] theorem lookAhead_i : (s.lookAhead).2.i = s.i := rfl
@[simp] theorem lookAhead_r : (s.lookAhead).2.r = s.r := rfl
@[simp] theorem lookAhead_iff1 : (s.lookAhead).2.iff1 = s.iff1 := rfl
@[simp] theorem lookAhead_iff2 : (s.lookAhead).2.iff2 = s.iff2 := rfl
@[simp] theorem lookAhead_im : (s.lookAhead).2.im = s.im := rfl
@[simp] theorem lookAhead_haltSt : (s.lookAhead).2.haltSt = s.haltSt := rfl
@[simp] theorem lookAhead_eiSt : (s.lookAhead).2.eiSt = s.eiSt := rfl
@[simp] theorem lookAhead_mem : (s.lookAhead).2.mem = s.mem := rfl
@[simp] theorem lookAhead_cfg : (s.lookAhead).2.cfg = s.cfg := rfl
@[simp] theorem lookAhead_signals : (s.lookAhead).2.signals = s.signals := rfl
@[simp] theorem lookAhead_portIn : (s.lookAhead).2.portIn = s.portIn := rfl
@[simp] theorem lookAhead_bus : (s.lookAhead).2.bus = .memRead (s.pc + 3) (s.peek (s.pc + 3)) :: .memRead (s.pc + 2) (s.peek (s.pc + 2)) ::
    .memRead (s.pc + 1) (s.peek (s.pc + 1)) :: .memRead s.pc (s.peek s.pc) :: s.bus :=
  rfl
@[simp] theorem lookAhead_anyIn : (s.lookAhead).2.anyIn = s.anyIn := rfl
@[simp] theorem lookAhead_draws : (s.lookAhead).2.draws = s.draws := rfl
@[simp] theorem lookAhead_returned : (s.lookAhead).2.returned = s.returned := rfl

/-! ### `eiUpdate` -/

@[simp] theorem eiUpdate_main : s.eiUpdate.main = s.main := by unfold eiUpdate; split <;> rfl
@[simp] theorem eiUpdate_alt : s.eiUpdate.alt = s.alt := by unfold eiUpdate; split <;> rfl
@[simp] theorem eiUpdate_ix : s.eiUpdate.ix = s.ix := by unfold eiUpdate; split <;> rfl
@[simp] theorem eiUpdate_iy : s.eiUpdate.iy = s.iy := by unfold eiUpdate; split <;> rfl
@[simp] theorem eiUpdate_sp : s.eiUpdate.sp = s.sp := by unfold eiUpdate; split <;> rfl
@[simp] theorem eiUpdate_pc : s.eiUpdate.pc = s.pc := by unfold eiUpdate; split <;> rfl
@[simp] theorem eiUpdate_i : s.eiUpdate.i = s.i := by unfold eiUpdate; split <;> rfl
@[simp] theorem eiUpdate_r : s.eiUpdate.r = s.r := by unfold eiUpdate; split <;> rfl
@[simp] theorem eiUpdate_im : s.eiUpdate.im = s.im := by unfold eiUpdate; split <;> rfl
@[simp] theorem eiUpdate_haltSt : s.eiUpdate.haltSt = s.haltSt := by unfold eiUpdate; split <;> rfl
@[simp] theorem eiUpdate_mem : s.eiUpdate.mem = s.mem := by unfold eiUpdate; split <;> rfl
@[simp] theorem eiUpdate_cfg : s.eiUpdate.cfg = s.cfg := by unfold eiUpdate; split <;> rfl
@[simp] theorem eiUpdate_signals : s.eiUpdate.signals = s.signals := by unfold eiUpdate; split <;> rfl
@[simp] theorem eiUpdate_portIn : s.eiUpdate.portIn = s.portIn := by unfold eiUpdate; split <;> rfl
@[simp] theorem eiUpdate_bus : s.eiUpdate.bus = s.bus := by unfold eiUpdate; split <;> rfl
@[simp] theorem eiUpdate_anyIn : s.eiUpdate.anyIn = s.anyIn := by unfold eiUpdate; split <;> rfl
@[simp] theorem eiUpdate_draws : s.eiUpdate.draws = s.draws := by unfold eiUpdate; split <;> rfl
@[simp] theorem eiUpdate_returned : s.eiUpdate.returned = s.returned := by unfold eiUpdate; split <;> rfl

/-! ### `place` -/

@[simp] theorem place_main (a : Word) (bs : List Byte) : (s.place a bs).main = s.main := by
  induction bs generalizing s a with
  | nil => rfl
  | cons b bs ih => exact (ih _ _).trans rfl
@[simp] theorem place_alt (a : Word) (bs : List Byte) : (s.place a bs).alt = s.alt := by
  induction bs generalizing s a with
  | nil => rfl
  | cons b bs ih => exact (ih _ _).trans rfl
@[simp] theorem place_ix (a : Word) (bs : List Byte) : (s.place a bs).ix = s.ix := by
  induction bs generalizing s a with
  | nil => rfl
  | cons b bs ih => exact (ih _ _).trans rfl
@[simp] theorem place_iy (a : Word) (bs : List Byte) : (s.place a bs).iy = s.iy := by
  induction bs generalizing s a with
  | nil => rfl
  | cons b bs ih => exact (ih _ _).trans rfl
@[simp] theorem place_sp (a : Word) (bs : List Byte) : (s.place a bs).sp = s.sp := by
  induction bs generalizing s a with
  | nil => rfl
  | cons b bs ih => exact (ih _ _).trans rfl
@[simp] theorem place_pc (a : Word) (bs : List Byte) : (s.place a bs).pc = s.pc := by
  induction bs generalizing s a with
  | nil => rfl
  | cons b bs ih => exact (ih _ _).trans rfl
@[simp] theorem place_i (a : Word) (bs : List Byte) : (s.place a bs).i = s.i := by
  induction bs generalizing s a with
  | nil => rfl
  | cons b bs ih => exact (ih _ _).trans rfl
@[simp] theorem place_r (a : Word) (bs : List Byte) : (s.place a bs).r = s.r := by
  induction bs generalizing s a with
  | nil => rfl
  | cons b bs ih => exact (ih _ _).trans rfl
@[simp] theorem place_iff1 (a : Word) (bs : List Byte) : (s.place a bs).iff1 = s.iff1 := by
  induction bs generalizing s a with
  | nil => rfl
  | cons b bs ih => exact (ih _ _).trans rfl
@[simp] theorem place_iff2 (a : Word) (bs : List Byte) : (s.place a bs).iff2 = s.iff2 := by
  induction bs generalizing s a with
  | nil => rfl
  | cons b bs ih => exact (ih _ _).trans rfl
@[simp] theorem place_im (a : Word) (bs : List Byte) : (s.place a bs).im = s.im := by
  induction bs generalizing s a with
  | nil => rfl
  | cons b bs ih => exact (ih _ _).trans rfl
@[simp] theorem place_haltSt (a : Word) (bs : List Byte) : (s.place a bs).haltSt = s.haltSt := by
  induction bs generalizing s a with
  | nil => rfl
  | cons b bs ih => exact (ih _ _).trans rfl
@[simp] theorem place_eiSt (a : Word) (bs : List Byte) : (s.place a bs).eiSt = s.eiSt := by
  induction bs generalizing s a with
  | nil => rfl
  | cons b bs ih => exact (ih _ _).trans rfl
@[simp] theorem place_cfg (a : Word) (bs : List Byte) : (s.place a bs).cfg = s.cfg := by
  induction bs generalizing s a with
  | nil => rfl
  | cons b bs ih => exact (ih _ _).trans rfl
@[simp] theorem place_signals (a : Word) (bs : List Byte) : (s.place a bs).signals = s.signals := by
  induction bs generalizing s a with
  | nil => rfl
  | cons b bs ih => exact (ih _ _).trans rfl
@[simp] theorem place_portIn (a : Word) (bs : List Byte) : (s.place a bs).portIn = s.portIn := by
  induction bs generalizing s a with
  | nil => rfl
  | cons b bs ih => exact (ih _ _).trans rfl
@[simp] theorem place_bus (a : Word) (bs : List Byte) : (s.place a bs).bus = s.bus := by
  induction bs generalizing s a with
  | nil => rfl
  | cons b bs ih => exact (ih _ _).trans rfl
@[simp] theorem place_anyIn (a : Word) (bs : List Byte) : (s.place a bs).anyIn = s.anyIn := by
  induction bs generalizing s a with
  | nil => rfl
  | cons b bs ih => exact (ih _ _).trans rfl
@[simp] theorem place_draws (a : Word) (bs : List Byte) : (s.place a bs).draws = s.draws := by
  induction bs generalizing s a with
  | nil => rfl
  | cons b bs ih => exact (ih _ _).trans rfl
@[simp] theorem place_returned (a : Word) (bs : List Byte) : (s.place a bs).returned = s.returned := by
  induction bs generalizing s a with
  | nil => rfl
  | cons b bs ih => exact (ih _ _).trans rfl

/-! ### Reading registers back -/

theorem getR8_setR8 (r q : Reg8) (v : Byte) : (s.setR8 r v).getR8 q = if q = r then v else s.getR8 q := by
  cases r <;> cases q <;> rfl

@[simp] theorem setR8_main_f (r : Reg8) (v : Byte) : (s.setR8 r v).main.f = s.main.f := by
  cases r <;> rfl

/-- A write of one register is an update of the main set alone. -/
theorem setR8_eq (r : Reg8) (v : Byte) : s.setR8 r v = { s with main := (s.setR8 r v).main } := by
  cases r <;> rfl

theorem setP8_eq (r : RegP) (v : Byte) :
    s.setP8 r v = { s with main := (s.setP8 r v).main, ix := (s.setP8 r v).ix } := by
  cases r <;> rfl

theorem setQ8_eq (r : RegQ) (v : Byte) :
    s.setQ8 r v = { s with main := (s.setQ8 r v).main, iy := (s.setQ8 r v).iy } := by
  cases r <;> rfl

theorem setDd_eq (p : PairDd) (v : Word) :
    s.setDd p v = { s with main := (s.setDd p v).main, sp := (s.setDd p v).sp } := by
  cases p <;> rfl

theorem setQq_eq (p : PairQq) (v : Word) : s.setQq p v = { s with main := (s.setQq p v).main } := by
  cases p <;> rfl

theorem putFlags_eq (f : Flags) :
    s.putFlags f = { s with
      main := { s.main with f := withAnyXY f s.nextDraw }, anyIn := s.anyIn.tail, draws := s.draws + 1 } := rfl

theorem putFlagsAnyHPv_eq (f : Flags) :
    s.putFlagsAnyHPv f = { s with
      main := { s.main with f := withAnyXYHPv f s.nextDraw }, anyIn := s.anyIn.tail,
      draws := s.draws + 1 } := rfl

@[simp] theorem memRead_fst (a : Word) : (s.memRead a).1 = s.peek a := rfl

@[simp] theorem memRead16_fst (a : Word) :
    (s.memRead16 a).1 = pair (s.peek (a + 1)) (s.peek a) := rfl

@[simp] theorem pop16_fst : s.pop16.1 = pair (s.peek (s.sp + 1)) (s.peek s.sp) := rfl

@[simp] theorem portRead_fst (p : Word) : (s.portRead p).1 = s.portAnswer p := rfl

@[simp] theorem lookAhead_fst : s.lookAhead.1 = s.fetched := rfl

/-! ### Reading memory back: it depends on `mem` alone -/

theorem peek_congr {s t : State} (h : s.mem = t.mem) (a : Word) : s.peek a = t.peek a := by
  unfold peek
  rw [h]

theorem peek_memWrite (a b : Word) (v : Byte) :
    (s.memWrite a v).peek b = if b = a then v else s.peek b := by
  simp only [peek, memWrite, Memory.read_write, BitVec.toNat_inj]

@[simp] theorem peek_memWrite_same (a : Word) (v : Byte) : (s.memWrite a v).peek a = v := by
  simp [peek_memWrite]

theorem peek_memWrite16 (a b v : Word) :
    (s.memWrite16 a v).peek b = if b = a + 1 then hi v else if b = a then lo v else s.peek b := by
  simp only [memWrite16, peek_memWrite]

theorem peek_push16 (b v : Word) :
    (s.push16 v).peek b = if b = s.sp - 2 then lo v else if b = s.sp - 1 then hi v else s.peek b := by
  have h : (s.push16 v).peek b = ((s.memWrite (s.sp - 1) (hi v)).memWrite (s.sp - 2) (lo v)).peek b := rfl
  simp only [h, peek_memWrite]

theorem memWrite_wf {s : State} (a : Word) (v : Byte) (h : s.mem.wf) : (s.memWrite a v).mem.wf :=
  Memory.write_wf v h a.isLt

theorem memWrite16_wf {s : State} (a v : Word) (h : s.mem.wf) : (s.memWrite16 a v).mem.wf :=
  memWrite_wf _ _ (memWrite_wf _ _ h)

theorem push16_wf {s : State} (v : Word) (h : s.mem.wf) : (s.push16 v).mem.wf :=
  memWrite_wf (s := s.memWrite (s.sp - 1) (hi v)) _ _ (memWrite_wf _ _ h)

theorem place_wf {s : State} (a : Word) (bs : List Byte) (h : s.mem.wf) : (s.place a bs).mem.wf := by
  induction bs generalizing s a with
  | nil => exact h
  | cons b bs ih => exact ih _ (Memory.write_wf b h a.isLt)

theorem resetWith_mem_wf (u : ResetUnspec) (cfg : Config) : (State.resetWith u cfg).mem.wf := Memory.nil_wf

end Sys2Proof.Machine.State

namespace Sys2Proof.Machine

/-! ### Words, bytes and flags -/

theorem getLsbD_pair (h l : Byte) (i : Nat) :
    (pair h l).getLsbD i = if i < 8 then l.getLsbD i else h.getLsbD (i - 8) :=
  BitVec.getLsbD_append

@[simp] theorem hi_pair (h l : Byte) : hi (pair h l) = h := by
  refine BitVec.eq_of_getLsbD_eq fun i hi => ?_
  simp [Machine.hi, getLsbD_pair, hi]

@[simp] theorem lo_pair (h l : Byte) : lo (pair h l) = l := by
  refine BitVec.eq_of_getLsbD_eq fun i hi => ?_
  simp [lo, getLsbD_pair, hi]

@[simp] theorem pair_hi_lo (v : Word) : pair (hi v) (lo v) = v := by
  refine BitVec.eq_of_getLsbD_eq fun i h => ?_
  by_cases h8 : i < 8
  · simp [lo, getLsbD_pair, h8]
  · have : i - 8 < 8 := by omega
    simp [hi, getLsbD_pair, h8, this, show 8 + (i - 8) = i by omega]

/-- F as a byte and back loses nothing (R16, R183). -/
@[simp] theorem Flags.ofByte_toByte (f : Flags) : Flags.ofByte f.toByte = f := by
  obtain ⟨s, z, y, h, x, pv, n, c⟩ := f
  revert s z y h x pv n c
  decide

@[simp] theorem Flags.toByte_ofByte (v : Byte) : (Flags.ofByte v).toByte = v := by
  revert v
  decide

@[simp] theorem Bank.bc_setBc (m : Bank) (v : Word) : (m.setBc v).bc = v := by simp [Bank.bc, Bank.setBc]

@[simp] theorem Bank.de_setDe (m : Bank) (v : Word) : (m.setDe v).de = v := by simp [Bank.de, Bank.setDe]

@[simp] theorem Bank.hl_setHl (m : Bank) (v : Word) : (m.setHl v).hl = v := by simp [Bank.hl, Bank.setHl]

@[simp] theorem Bank.af_setAf (m : Bank) (v : Word) : (m.setAf v).af = v := by simp [Bank.af, Bank.setAf]

/-- Of the flags given, bits 5 and 3 alone are replaced (R127). -/
theorem withAnyXY_six (f : Flags) (v : Byte) :
    (State.withAnyXY f v).s = f.s ∧ (State.withAnyXY f v).z = f.z ∧ (State.withAnyXY f v).h = f.h ∧
      (State.withAnyXY f v).pv = f.pv ∧ (State.withAnyXY f v).n = f.n ∧ (State.withAnyXY f v).c = f.c :=
  ⟨rfl, rfl, rfl, rfl, rfl, rfl⟩

end Sys2Proof.Machine
end

