-- ==== Sys2Proof/Laws/Operations.lean ====
section
/-! SUPPORT. One lemma per shared operation, saying all it does: the ALU and memory shapes of the instruction families, calls and returns, the signals, and the gap before a step. -/

namespace Sys2Proof.Machine.State

variable (s : State)

/-! ### Arithmetic on A, HL and memory bytes -/

theorem acc_eq (op : AccOp) (v : Byte) :
    s.acc op v = { s with
      main := { s.main with
        a := (acc8 op s.main.a v s.main.f).1
        f := withAnyXY (acc8 op s.main.a v s.main.f).2 s.nextDraw }
      anyIn := s.anyIn.tail, draws := s.draws + 1 } := rfl

theorem addHl_eq (v : Word) :
    s.addHl v = { s with
      main := { s.main with
        h := hi (add16 s.main.hl v s.main.f).1, l := lo (add16 s.main.hl v s.main.f).1
        f := withAnyXY (add16 s.main.hl v s.main.f).2 s.nextDraw }
      anyIn := s.anyIn.tail, draws := s.draws + 1 } := rfl

theorem incMem_eq (a : Word) :
    s.incMem a = { s with
      main := { s.main with f := withAnyXY (inc8 (s.peek a) s.main.f).2 s.nextDraw }
      mem := s.mem.write a.toNat (inc8 (s.peek a) s.main.f).1
      bus := .memWrite a (inc8 (s.peek a) s.main.f).1 :: .memRead a (s.peek a) :: s.bus
      anyIn := s.anyIn.tail, draws := s.draws + 1 } := rfl

theorem decMem_eq (a : Word) :
    s.decMem a = { s with
      main := { s.main with f := withAnyXY (dec8 (s.peek a) s.main.f).2 s.nextDraw }
      mem := s.mem.write a.toNat (dec8 (s.peek a) s.main.f).1
      bus := .memWrite a (dec8 (s.peek a) s.main.f).1 :: .memRead a (s.peek a) :: s.bus
      anyIn := s.anyIn.tail, draws := s.draws + 1 } := rfl

theorem rotMem_eq (op : RotOp) (a : Word) :
    s.rotMem op a = ((rot8 op (s.peek a) s.main.f).1, { s with
      main := { s.main with f := withAnyXY (rot8 op (s.peek a) s.main.f).2 s.nextDraw }
      mem := s.mem.write a.toNat (rot8 op (s.peek a) s.main.f).1
      bus := .memWrite a (rot8 op (s.peek a) s.main.f).1 :: .memRead a (s.peek a) :: s.bus
      anyIn := s.anyIn.tail, draws := s.draws + 1 }) := rfl

theorem incMem_peek (a b : Word) :
    (s.incMem a).peek b = if b = a then (inc8 (s.peek a) s.main.f).1 else s.peek b :=
  s.peek_memWrite a b _

theorem decMem_peek (a b : Word) :
    (s.decMem a).peek b = if b = a then (dec8 (s.peek a) s.main.f).1 else s.peek b :=
  s.peek_memWrite a b _

theorem rotMem_peek (op : RotOp) (a b : Word) :
    (s.rotMem op a).2.peek b = if b = a then (rot8 op (s.peek a) s.main.f).1 else s.peek b :=
  s.peek_memWrite a b _

/-! ### Exchange with the stack, block transfer, block search -/

theorem exchangeTop_eq (v : Word) :
    s.exchangeTop v = (pair (s.peek (s.sp + 1)) (s.peek s.sp), { s with
      mem := (s.mem.write (s.sp + 1).toNat (hi v)).write s.sp.toNat (lo v)
      bus := .memWrite s.sp (lo v) :: .memWrite (s.sp + 1) (hi v) :: .memRead (s.sp + 1) (s.peek (s.sp + 1))
        :: .memRead s.sp (s.peek s.sp) :: s.bus }) := rfl

theorem exchangeTop_peek (v b : Word) :
    (s.exchangeTop v).2.peek b =
      if b = s.sp then lo v else if b = s.sp + 1 then hi v else s.peek b := by
  have h : (s.exchangeTop v).2.peek b = ((s.memWrite (s.sp + 1) (hi v)).memWrite s.sp (lo v)).peek b := rfl
  simp only [h, peek_memWrite]

theorem blockTransfer_eq (k : Word) :
    s.blockTransfer k = { s with
      main := { s.main with
        h := hi (s.main.hl + k), l := lo (s.main.hl + k), d := hi (s.main.de + k), e := lo (s.main.de + k)
        b := hi (s.main.bc - 1), c := lo (s.main.bc - 1)
        f := withAnyXY (transferFlags (s.main.bc - 1) s.main.f) s.nextDraw }
      mem := s.mem.write s.main.de.toNat (s.peek s.main.hl)
      bus := .memWrite s.main.de (s.peek s.main.hl) :: .memRead s.main.hl (s.peek s.main.hl) :: s.bus
      anyIn := s.anyIn.tail, draws := s.draws + 1 } := rfl

theorem blockTransfer_peek (k b : Word) :
    (s.blockTransfer k).peek b = if b = s.main.de then s.peek s.main.hl else s.peek b :=
  s.peek_memWrite _ _ _

theorem blockSearch_eq (k : Word) :
    s.blockSearch k = { s with
      main := { s.main with
        h := hi (s.main.hl + k), l := lo (s.main.hl + k), b := hi (s.main.bc - 1), c := lo (s.main.bc - 1)
        f := withAnyXY (searchFlags s.main.a (s.peek s.main.hl) (s.main.bc - 1) s.main.f) s.nextDraw }
      bus := .memRead s.main.hl (s.peek s.main.hl) :: s.bus
      anyIn := s.anyIn.tail, draws := s.draws + 1 } := rfl

/-- An iteration of a repeating block instruction ends in one of two ways (R197). -/
theorem repeatIf_cases (again : Bool) :
    (again = true ∧ s.repeatIf again = { s with returned := 21 }) ∨
      (again = false ∧ s.repeatIf again = { s with pc := s.pc + 2, returned := 16 }) := by
  cases again
  · exact .inr ⟨rfl, rfl⟩
  · exact .inl ⟨rfl, rfl⟩

/-! ### Block input and output -/

theorem blockIn_eq (k : Word) (c : Byte) :
    s.blockIn k c =
      (blockIoFlags ((s.portAnswer s.main.bc).toNat + (s.main.c + c).toNat) (s.portAnswer s.main.bc)
        (s.main.b - 1) s.main.f,
      { s with
        main := { s.main with b := s.main.b - 1, h := hi (s.main.hl + k), l := lo (s.main.hl + k) }
        mem := s.mem.write s.main.hl.toNat (s.portAnswer s.main.bc)
        bus := .memWrite s.main.hl (s.portAnswer s.main.bc)
          :: .portRead s.main.bc (s.portAnswer s.main.bc) :: s.bus
        portIn := s.portIn.tail, draws := s.draws + 1 }) := rfl

theorem blockIn_peek (k : Word) (c : Byte) (b : Word) :
    (s.blockIn k c).2.peek b = if b = s.main.hl then s.portAnswer s.main.bc else s.peek b :=
  s.peek_memWrite _ _ _

theorem blockOut_eq (k : Word) :
    s.blockOut k =
      (blockIoFlags ((s.peek s.main.hl).toNat + (lo (s.main.hl + k)).toNat) (s.peek s.main.hl)
        (s.main.b - 1) s.main.f,
      { s with
        main := { s.main with b := s.main.b - 1, h := hi (s.main.hl + k), l := lo (s.main.hl + k) }
        bus := .portWrite (pair (s.main.b - 1) s.main.c) (s.peek s.main.hl)
          :: .memRead s.main.hl (s.peek s.main.hl) :: s.bus }) := rfl

/-- An iteration of a repeating block input or output ends in one of two ways (R324, R330). -/
theorem blockIoRepeat_cases (f : Flags) :
    (s.main.b ≠ 0 ∧ s.blockIoRepeat f = { s.putFlagsAnyHPv f with returned := 21 }) ∨
      (s.main.b = 0 ∧ s.blockIoRepeat f = { s.putFlags f with pc := s.pc + 2, returned := 16 }) := by
  by_cases h : s.main.b = 0
  · exact .inr ⟨h, if_neg (by simp [h])⟩
  · exact .inl ⟨h, if_pos (bne_iff_ne.2 h)⟩

/-! ### Jumps, calls, returns -/

theorem jumpRelIf_cases (b : Bool) (e : Byte) (m n : Nat) :
    (b = true ∧ s.jumpRelIf b e m n = { s with pc := s.relTarget e, returned := m }) ∨
      (b = false ∧ s.jumpRelIf b e m n = { s with pc := s.pc + 2, returned := n }) := by
  cases b
  · exact .inr ⟨rfl, rfl⟩
  · exact .inl ⟨rfl, rfl⟩

theorem call_eq (len : Nat) (target : Word) (n : Nat) :
    s.call len target n = { s with
      mem := (s.mem.write (s.sp - 1).toNat (hi (s.npc len))).write (s.sp - 2).toNat (lo (s.npc len))
      bus := .memWrite (s.sp - 2) (lo (s.npc len)) :: .memWrite (s.sp - 1) (hi (s.npc len)) :: s.bus
      sp := s.sp - 2, pc := target, returned := n } := rfl

theorem call_peek (len : Nat) (target : Word) (n : Nat) (b : Word) :
    (s.call len target n).peek b =
      if b = s.sp - 2 then lo (s.npc len) else if b = s.sp - 1 then hi (s.npc len) else s.peek b :=
  s.peek_push16 b _

theorem ret_eq (n : Nat) :
    s.ret n = { s with
      bus := .memRead (s.sp + 1) (s.peek (s.sp + 1)) :: .memRead s.sp (s.peek s.sp) :: s.bus
      sp := s.sp + 2, pc := pair (s.peek (s.sp + 1)) (s.peek s.sp), returned := n } := rfl

theorem retn_eq (n : Nat) : s.retn n = { s.ret n with iff1 := s.iff2 } := rfl

theorem reti_cases (n : Nat) :
    (s.cfg.retiCopiesIff2 = true ∧ s.reti n = { s.ret n with iff1 := s.iff2 }) ∨
      (s.cfg.retiCopiesIff2 = false ∧ s.reti n = s.ret n) := by
  unfold reti
  cases s.cfg.retiCopiesIff2
  · exact .inr ⟨rfl, rfl⟩
  · exact .inl ⟨rfl, rfl⟩

/-! ### Interrupts and the gap before a step -/

theorem enter_eq (v : Word) :
    s.enter v = { s with
      mem := (s.mem.write (s.sp - 1).toNat (hi s.pc)).write (s.sp - 2).toNat (lo s.pc)
      bus := .memWrite (s.sp - 2) (lo s.pc) :: .memWrite (s.sp - 1) (hi s.pc) :: s.bus
      sp := s.sp - 2, pc := v } := rfl

theorem enter_peek (v b : Word) :
    (s.enter v).peek b = if b = s.sp - 2 then lo s.pc else if b = s.sp - 1 then hi s.pc else s.peek b :=
  s.peek_push16 b _

theorem enter_wf {s : State} (v : Word) (h : s.mem.wf) : (s.enter v).mem.wf := push16_wf s.pc h

/-- All a signal can do: release a waiting engine, enter a service routine, or nothing (R346, R348). -/
theorem signal_cases (x : Signal) :
    (s.haltSt = .waiting ∧ s.signal x = { s with haltSt := .satisfied }) ∨
    (s.haltSt ≠ .waiting ∧ x = .nmi ∧
      s.signal x = { s.enter s.cfg.nmiVector with iff2 := s.iff1, iff1 := false }) ∨
    (s.haltSt ≠ .waiting ∧ x = .int ∧ s.iff1 = true ∧
      s.signal x = { s.enter s.cfg.intVector with iff1 := false, iff2 := false }) ∨
    (s.haltSt ≠ .waiting ∧ x = .int ∧ s.iff1 = false ∧ s.signal x = s) := by
  by_cases h : s.haltSt = .waiting
  · exact .inl ⟨h, by cases x <;> simp [signal, signalNmi, signalInt, h]⟩
  · cases x with
    | nmi => exact .inr (.inl ⟨h, rfl, by simp [signal, signalNmi, h]⟩)
    | int =>
      cases hi : s.iff1
      · exact .inr (.inr (.inr ⟨h, rfl, rfl, by simp [signal, signalInt, h, hi]⟩))
      · exact .inr (.inr (.inl ⟨h, rfl, rfl, by simp [signal, signalInt, h, hi]⟩))

theorem signal_wf {s : State} (x : Signal) (h : s.mem.wf) : (s.signal x).mem.wf := by
  rcases s.signal_cases x with ⟨_, e⟩ | ⟨_, _, e⟩ | ⟨_, _, _, e⟩ | ⟨_, _, _, e⟩ <;> rw [e]
  · exact h
  · exact enter_wf s.cfg.nmiVector h
  · exact enter_wf s.cfg.intVector h
  · exact h

/-- What every signal keeps, the calls of a gap keep. -/
theorem signalAll_keeps (P : State → Prop) (hP : ∀ t x, P t → P (t.signal x)) (xs : List Signal) :
    ∀ t, P t → P (signalAll xs t) := by
  induction xs with
  | nil => exact fun t h => h
  | cons x xs ih => exact fun t h => ih _ (hP t x h)

theorem deliver_wf {s : State} (h : s.mem.wf) : s.deliver.mem.wf :=
  signalAll_keeps (fun t => t.mem.wf) (fun _ x => signal_wf x) _ _ h

/-- A gap without a call changes the schedule alone. -/
theorem deliver_of_no_signal (h : s.signals.headD [] = []) :
    s.deliver = { s with signals := s.signals.tail } := by
  unfold deliver
  rw [h]
  rfl

/-! ### Where each shared write keeps the canonical form -/

theorem incMem_wf {s : State} (a : Word) (h : s.mem.wf) : (s.incMem a).mem.wf := memWrite_wf a _ h

theorem decMem_wf {s : State} (a : Word) (h : s.mem.wf) : (s.decMem a).mem.wf := memWrite_wf a _ h

theorem rotMem_wf {s : State} (op : RotOp) (a : Word) (h : s.mem.wf) : (s.rotMem op a).2.mem.wf :=
  memWrite_wf a _ h

theorem exchangeTop_wf {s : State} (v : Word) (h : s.mem.wf) : (s.exchangeTop v).2.mem.wf :=
  memWrite_wf (s := s.memWrite (s.sp + 1) (hi v)) s.sp _ (memWrite_wf _ _ h)

theorem blockTransfer_wf {s : State} (k : Word) (h : s.mem.wf) : (s.blockTransfer k).mem.wf :=
  memWrite_wf s.main.de _ h

theorem blockIn_wf {s : State} (k : Word) (c : Byte) (h : s.mem.wf) : (s.blockIn k c).2.mem.wf :=
  memWrite_wf s.main.hl _ h

theorem call_wf {s : State} (len : Nat) (target : Word) (n : Nat) (h : s.mem.wf) :
    (s.call len target n).mem.wf := push16_wf _ h

end Sys2Proof.Machine.State
end

