-- ==== Sys2Proof/Laws/PerInstr.lean ====
section
/-! SUPPORT. Facts made once per instruction. Family Length: an encoding has 1 to 4 bytes (R80, R82). -/

namespace Sys2Proof.Laws.Length

/-- The encoding of an instruction has 1 to 4 bytes (R80). -/
def Statement (i : Instr) : Prop := 1 ≤ (encode i).length ∧ (encode i).length ≤ 4

theorem of_length {i : Instr} (n : Nat) (he : (encode i).length = n) (h : 1 ≤ n ∧ n ≤ 4) : Statement i :=
  ⟨he ▸ h.1, he ▸ h.2⟩

theorem ldRR (r : Reg8) (q : Reg8) : Statement (.ldRR r q) := of_length 1 rfl (by decide)
theorem ldRN (r : Reg8) (n : Byte) : Statement (.ldRN r n) := of_length 2 rfl (by decide)
theorem ldRIndHl (r : Reg8) : Statement (.ldRIndHl r) := of_length 1 rfl (by decide)
theorem ldIndHlR (r : Reg8) : Statement (.ldIndHlR r) := of_length 1 rfl (by decide)
theorem ldIndHlN (n : Byte) : Statement (.ldIndHlN n) := of_length 2 rfl (by decide)
theorem ldAIndBc : Statement .ldAIndBc := of_length 1 rfl (by decide)
theorem ldAIndDe : Statement .ldAIndDe := of_length 1 rfl (by decide)
theorem ldAIndNn (nn : Word) : Statement (.ldAIndNn nn) := of_length 3 rfl (by decide)
theorem ldIndBcA : Statement .ldIndBcA := of_length 1 rfl (by decide)
theorem ldIndDeA : Statement .ldIndDeA := of_length 1 rfl (by decide)
theorem ldIndNnA (nn : Word) : Statement (.ldIndNnA nn) := of_length 3 rfl (by decide)
theorem ldAI : Statement .ldAI := of_length 2 rfl (by decide)
theorem ldAR : Statement .ldAR := of_length 2 rfl (by decide)
theorem ldIA : Statement .ldIA := of_length 2 rfl (by decide)
theorem ldRA : Statement .ldRA := of_length 2 rfl (by decide)
theorem ldDdNn (p : PairDd) (nn : Word) : Statement (.ldDdNn p nn) := of_length 3 rfl (by decide)
theorem ldHlIndNn (nn : Word) : Statement (.ldHlIndNn nn) := of_length 3 rfl (by decide)
theorem ldDdIndNn (p : PairDd) (nn : Word) : Statement (.ldDdIndNn p nn) := of_length 4 rfl (by decide)
theorem ldIndNnHl (nn : Word) : Statement (.ldIndNnHl nn) := of_length 3 rfl (by decide)
theorem ldIndNnDd (nn : Word) (p : PairDd) : Statement (.ldIndNnDd nn p) := of_length 4 rfl (by decide)
theorem ldSpHl : Statement .ldSpHl := of_length 1 rfl (by decide)
theorem pushQq (p : PairQq) : Statement (.pushQq p) := of_length 1 rfl (by decide)
theorem popQq (p : PairQq) : Statement (.popQq p) := of_length 1 rfl (by decide)
theorem exDeHl : Statement .exDeHl := of_length 1 rfl (by decide)
theorem exAfAf : Statement .exAfAf := of_length 1 rfl (by decide)
theorem exx : Statement .exx := of_length 1 rfl (by decide)
theorem exIndSpHl : Statement .exIndSpHl := of_length 1 rfl (by decide)
theorem ldi : Statement .ldi := of_length 2 rfl (by decide)
theorem ldir : Statement .ldir := of_length 2 rfl (by decide)
theorem ldd : Statement .ldd := of_length 2 rfl (by decide)
theorem lddr : Statement .lddr := of_length 2 rfl (by decide)
theorem cpi : Statement .cpi := of_length 2 rfl (by decide)
theorem cpir : Statement .cpir := of_length 2 rfl (by decide)
theorem cpd : Statement .cpd := of_length 2 rfl (by decide)
theorem cpdr : Statement .cpdr := of_length 2 rfl (by decide)
theorem daa : Statement .daa := of_length 1 rfl (by decide)
theorem cpl : Statement .cpl := of_length 1 rfl (by decide)
theorem neg : Statement .neg := of_length 2 rfl (by decide)
theorem ccf : Statement .ccf := of_length 1 rfl (by decide)
theorem scf : Statement .scf := of_length 1 rfl (by decide)
theorem nop : Statement .nop := of_length 1 rfl (by decide)
theorem halt : Statement .halt := of_length 1 rfl (by decide)
theorem di : Statement .di := of_length 1 rfl (by decide)
theorem ei : Statement .ei := of_length 1 rfl (by decide)
theorem im0 : Statement .im0 := of_length 2 rfl (by decide)
theorem im1 : Statement .im1 := of_length 2 rfl (by decide)
theorem im2 : Statement .im2 := of_length 2 rfl (by decide)
theorem addAR (r : Reg8) : Statement (.addAR r) := of_length 1 rfl (by decide)
theorem addAN (n : Byte) : Statement (.addAN n) := of_length 2 rfl (by decide)
theorem addAIndHl : Statement .addAIndHl := of_length 1 rfl (by decide)
theorem adcAR (r : Reg8) : Statement (.adcAR r) := of_length 1 rfl (by decide)
theorem adcAN (n : Byte) : Statement (.adcAN n) := of_length 2 rfl (by decide)
theorem adcAIndHl : Statement .adcAIndHl := of_length 1 rfl (by decide)
theorem subR (r : Reg8) : Statement (.subR r) := of_length 1 rfl (by decide)
theorem subN (n : Byte) : Statement (.subN n) := of_length 2 rfl (by decide)
theorem subIndHl : Statement .subIndHl := of_length 1 rfl (by decide)
theorem sbcAR (r : Reg8) : Statement (.sbcAR r) := of_length 1 rfl (by decide)
theorem sbcAN (n : Byte) : Statement (.sbcAN n) := of_length 2 rfl (by decide)
theorem sbcAIndHl : Statement .sbcAIndHl := of_length 1 rfl (by decide)
theorem andR (r : Reg8) : Statement (.andR r) := of_length 1 rfl (by decide)
theorem andN (n : Byte) : Statement (.andN n) := of_length 2 rfl (by decide)
theorem andIndHl : Statement .andIndHl := of_length 1 rfl (by decide)
theorem xorR (r : Reg8) : Statement (.xorR r) := of_length 1 rfl (by decide)
theorem xorN (n : Byte) : Statement (.xorN n) := of_length 2 rfl (by decide)
theorem xorIndHl : Statement .xorIndHl := of_length 1 rfl (by decide)
theorem orR (r : Reg8) : Statement (.orR r) := of_length 1 rfl (by decide)
theorem orN (n : Byte) : Statement (.orN n) := of_length 2 rfl (by decide)
theorem orIndHl : Statement .orIndHl := of_length 1 rfl (by decide)
theorem cpR (r : Reg8) : Statement (.cpR r) := of_length 1 rfl (by decide)
theorem cpN (n : Byte) : Statement (.cpN n) := of_length 2 rfl (by decide)
theorem cpIndHl : Statement .cpIndHl := of_length 1 rfl (by decide)
theorem incR (r : Reg8) : Statement (.incR r) := of_length 1 rfl (by decide)
theorem incIndHl : Statement .incIndHl := of_length 1 rfl (by decide)
theorem decR (r : Reg8) : Statement (.decR r) := of_length 1 rfl (by decide)
theorem decIndHl : Statement .decIndHl := of_length 1 rfl (by decide)
theorem addHlSs (p : PairDd) : Statement (.addHlSs p) := of_length 1 rfl (by decide)
theorem adcHlSs (p : PairDd) : Statement (.adcHlSs p) := of_length 2 rfl (by decide)
theorem sbcHlSs (p : PairDd) : Statement (.sbcHlSs p) := of_length 2 rfl (by decide)
theorem incSs (p : PairDd) : Statement (.incSs p) := of_length 1 rfl (by decide)
theorem decSs (p : PairDd) : Statement (.decSs p) := of_length 1 rfl (by decide)
theorem rlca : Statement .rlca := of_length 1 rfl (by decide)
theorem rla : Statement .rla := of_length 1 rfl (by decide)
theorem rrca : Statement .rrca := of_length 1 rfl (by decide)
theorem rra : Statement .rra := of_length 1 rfl (by decide)
theorem rlcR (r : Reg8) : Statement (.rlcR r) := of_length 2 rfl (by decide)
theorem rlcIndHl : Statement .rlcIndHl := of_length 2 rfl (by decide)
theorem rrcR (r : Reg8) : Statement (.rrcR r) := of_length 2 rfl (by decide)
theorem rrcIndHl : Statement .rrcIndHl := of_length 2 rfl (by decide)
theorem rlR (r : Reg8) : Statement (.rlR r) := of_length 2 rfl (by decide)
theorem rlIndHl : Statement .rlIndHl := of_length 2 rfl (by decide)
theorem rrR (r : Reg8) : Statement (.rrR r) := of_length 2 rfl (by decide)
theorem rrIndHl : Statement .rrIndHl := of_length 2 rfl (by decide)
theorem slaR (r : Reg8) : Statement (.slaR r) := of_length 2 rfl (by decide)
theorem slaIndHl : Statement .slaIndHl := of_length 2 rfl (by decide)
theorem sraR (r : Reg8) : Statement (.sraR r) := of_length 2 rfl (by decide)
theorem sraIndHl : Statement .sraIndHl := of_length 2 rfl (by decide)
theorem sllR (r : Reg8) : Statement (.sllR r) := of_length 2 rfl (by decide)
theorem sllIndHl : Statement .sllIndHl := of_length 2 rfl (by decide)
theorem srlR (r : Reg8) : Statement (.srlR r) := of_length 2 rfl (by decide)
theorem srlIndHl : Statement .srlIndHl := of_length 2 rfl (by decide)
theorem rld : Statement .rld := of_length 2 rfl (by decide)
theorem rrd : Statement .rrd := of_length 2 rfl (by decide)
theorem bitBR (b : BitVec 3) (r : Reg8) : Statement (.bitBR b r) := of_length 2 rfl (by decide)
theorem bitBIndHl (b : BitVec 3) : Statement (.bitBIndHl b) := of_length 2 rfl (by decide)
theorem setBR (b : BitVec 3) (r : Reg8) : Statement (.setBR b r) := of_length 2 rfl (by decide)
theorem setBIndHl (b : BitVec 3) : Statement (.setBIndHl b) := of_length 2 rfl (by decide)
theorem resBR (b : BitVec 3) (r : Reg8) : Statement (.resBR b r) := of_length 2 rfl (by decide)
theorem resBIndHl (b : BitVec 3) : Statement (.resBIndHl b) := of_length 2 rfl (by decide)
theorem jpNn (nn : Word) : Statement (.jpNn nn) := of_length 3 rfl (by decide)
theorem jpCcNn (cc : Cond) (nn : Word) : Statement (.jpCcNn cc nn) := of_length 3 rfl (by decide)
theorem jrE (e : Byte) : Statement (.jrE e) := of_length 2 rfl (by decide)
theorem jrCE (e : Byte) : Statement (.jrCE e) := of_length 2 rfl (by decide)
theorem jrNcE (e : Byte) : Statement (.jrNcE e) := of_length 2 rfl (by decide)
theorem jrZE (e : Byte) : Statement (.jrZE e) := of_length 2 rfl (by decide)
theorem jrNzE (e : Byte) : Statement (.jrNzE e) := of_length 2 rfl (by decide)
theorem jpHl : Statement .jpHl := of_length 1 rfl (by decide)
theorem djnzE (e : Byte) : Statement (.djnzE e) := of_length 2 rfl (by decide)
theorem callNn (nn : Word) : Statement (.callNn nn) := of_length 3 rfl (by decide)
theorem callCcNn (cc : Cond) (nn : Word) : Statement (.callCcNn cc nn) := of_length 3 rfl (by decide)
theorem ret : Statement .ret := of_length 1 rfl (by decide)
theorem retCc (cc : Cond) : Statement (.retCc cc) := of_length 1 rfl (by decide)
theorem reti : Statement .reti := of_length 2 rfl (by decide)
theorem retn : Statement .retn := of_length 2 rfl (by decide)
theorem rstP (t : BitVec 3) : Statement (.rstP t) := of_length 1 rfl (by decide)
theorem inAPortN (n : Byte) : Statement (.inAPortN n) := of_length 2 rfl (by decide)
theorem inRPortC (r : Reg8) : Statement (.inRPortC r) := of_length 2 rfl (by decide)
theorem ini : Statement .ini := of_length 2 rfl (by decide)
theorem inir : Statement .inir := of_length 2 rfl (by decide)
theorem ind : Statement .ind := of_length 2 rfl (by decide)
theorem indr : Statement .indr := of_length 2 rfl (by decide)
theorem outPortNA (n : Byte) : Statement (.outPortNA n) := of_length 2 rfl (by decide)
theorem outPortCR (r : Reg8) : Statement (.outPortCR r) := of_length 2 rfl (by decide)
theorem outi : Statement .outi := of_length 2 rfl (by decide)
theorem otir : Statement .otir := of_length 2 rfl (by decide)
theorem outd : Statement .outd := of_length 2 rfl (by decide)
theorem otdr : Statement .otdr := of_length 2 rfl (by decide)
theorem ldRIdxIx (r : Reg8) (d : Byte) : Statement (.ldRIdxIx r d) := of_length 3 rfl (by decide)
theorem ldIdxIxR (d : Byte) (r : Reg8) : Statement (.ldIdxIxR d r) := of_length 3 rfl (by decide)
theorem ldIdxIxN (d : Byte) (n : Byte) : Statement (.ldIdxIxN d n) := of_length 4 rfl (by decide)
theorem ldPPIx (r : RegP) (q : RegP) : Statement (.ldPPIx r q) := of_length 2 rfl (by decide)
theorem ldIxhN (n : Byte) : Statement (.ldIxhN n) := of_length 3 rfl (by decide)
theorem ldIxlN (n : Byte) : Statement (.ldIxlN n) := of_length 3 rfl (by decide)
theorem ldIxNn (nn : Word) : Statement (.ldIxNn nn) := of_length 4 rfl (by decide)
theorem ldIxIndNn (nn : Word) : Statement (.ldIxIndNn nn) := of_length 4 rfl (by decide)
theorem ldIndNnIx (nn : Word) : Statement (.ldIndNnIx nn) := of_length 4 rfl (by decide)
theorem ldSpIx : Statement .ldSpIx := of_length 2 rfl (by decide)
theorem pushIx : Statement .pushIx := of_length 2 rfl (by decide)
theorem popIx : Statement .popIx := of_length 2 rfl (by decide)
theorem exIndSpIx : Statement .exIndSpIx := of_length 2 rfl (by decide)
theorem addAIdxIx (d : Byte) : Statement (.addAIdxIx d) := of_length 3 rfl (by decide)
theorem addAIxh : Statement .addAIxh := of_length 2 rfl (by decide)
theorem addAIxl : Statement .addAIxl := of_length 2 rfl (by decide)
theorem adcAIdxIx (d : Byte) : Statement (.adcAIdxIx d) := of_length 3 rfl (by decide)
theorem adcAIxh : Statement .adcAIxh := of_length 2 rfl (by decide)
theorem adcAIxl : Statement .adcAIxl := of_length 2 rfl (by decide)
theorem subIdxIx (d : Byte) : Statement (.subIdxIx d) := of_length 3 rfl (by decide)
theorem subIxh : Statement .subIxh := of_length 2 rfl (by decide)
theorem subIxl : Statement .subIxl := of_length 2 rfl (by decide)
theorem sbcAIdxIx (d : Byte) : Statement (.sbcAIdxIx d) := of_length 3 rfl (by decide)
theorem sbcAIxh : Statement .sbcAIxh := of_length 2 rfl (by decide)
theorem sbcAIxl : Statement .sbcAIxl := of_length 2 rfl (by decide)
theorem andIdxIx (d : Byte) : Statement (.andIdxIx d) := of_length 3 rfl (by decide)
theorem andIxh : Statement .andIxh := of_length 2 rfl (by decide)
theorem andIxl : Statement .andIxl := of_length 2 rfl (by decide)
theorem xorIdxIx (d : Byte) : Statement (.xorIdxIx d) := of_length 3 rfl (by decide)
theorem xorIxh : Statement .xorIxh := of_length 2 rfl (by decide)
theorem xorIxl : Statement .xorIxl := of_length 2 rfl (by decide)
theorem orIdxIx (d : Byte) : Statement (.orIdxIx d) := of_length 3 rfl (by decide)
theorem orIxh : Statement .orIxh := of_length 2 rfl (by decide)
theorem orIxl : Statement .orIxl := of_length 2 rfl (by decide)
theorem cpIdxIx (d : Byte) : Statement (.cpIdxIx d) := of_length 3 rfl (by decide)
theorem cpIxh : Statement .cpIxh := of_length 2 rfl (by decide)
theorem cpIxl : Statement .cpIxl := of_length 2 rfl (by decide)
theorem incIdxIx (d : Byte) : Statement (.incIdxIx d) := of_length 3 rfl (by decide)
theorem incIxh : Statement .incIxh := of_length 2 rfl (by decide)
theorem incIxl : Statement .incIxl := of_length 2 rfl (by decide)
theorem decIdxIx (d : Byte) : Statement (.decIdxIx d) := of_length 3 rfl (by decide)
theorem decIxh : Statement .decIxh := of_length 2 rfl (by decide)
theorem decIxl : Statement .decIxl := of_length 2 rfl (by decide)
theorem addIxPp (p : PairPp) : Statement (.addIxPp p) := of_length 2 rfl (by decide)
theorem incIx : Statement .incIx := of_length 2 rfl (by decide)
theorem decIx : Statement .decIx := of_length 2 rfl (by decide)
theorem rlcIdxIx (d : Byte) : Statement (.rlcIdxIx d) := of_length 4 rfl (by decide)
theorem rlcIdxIxR (d : Byte) (r : Reg8) : Statement (.rlcIdxIxR d r) := of_length 4 rfl (by decide)
theorem rrcIdxIx (d : Byte) : Statement (.rrcIdxIx d) := of_length 4 rfl (by decide)
theorem rrcIdxIxR (d : Byte) (r : Reg8) : Statement (.rrcIdxIxR d r) := of_length 4 rfl (by decide)
theorem rlIdxIx (d : Byte) : Statement (.rlIdxIx d) := of_length 4 rfl (by decide)
theorem rlIdxIxR (d : Byte) (r : Reg8) : Statement (.rlIdxIxR d r) := of_length 4 rfl (by decide)
theorem rrIdxIx (d : Byte) : Statement (.rrIdxIx d) := of_length 4 rfl (by decide)
theorem rrIdxIxR (d : Byte) (r : Reg8) : Statement (.rrIdxIxR d r) := of_length 4 rfl (by decide)
theorem slaIdxIx (d : Byte) : Statement (.slaIdxIx d) := of_length 4 rfl (by decide)
theorem slaIdxIxR (d : Byte) (r : Reg8) : Statement (.slaIdxIxR d r) := of_length 4 rfl (by decide)
theorem sraIdxIx (d : Byte) : Statement (.sraIdxIx d) := of_length 4 rfl (by decide)
theorem sraIdxIxR (d : Byte) (r : Reg8) : Statement (.sraIdxIxR d r) := of_length 4 rfl (by decide)
theorem sllIdxIx (d : Byte) : Statement (.sllIdxIx d) := of_length 4 rfl (by decide)
theorem sllIdxIxR (d : Byte) (r : Reg8) : Statement (.sllIdxIxR d r) := of_length 4 rfl (by decide)
theorem srlIdxIx (d : Byte) : Statement (.srlIdxIx d) := of_length 4 rfl (by decide)
theorem srlIdxIxR (d : Byte) (r : Reg8) : Statement (.srlIdxIxR d r) := of_length 4 rfl (by decide)
theorem bitBIdxIx (b : BitVec 3) (d : Byte) : Statement (.bitBIdxIx b d) := of_length 4 rfl (by decide)
theorem bitBIdxIxMirror (b : BitVec 3) (d : Byte) (r : Reg8) : Statement (.bitBIdxIxMirror b d r) :=
  of_length 4 rfl (by decide)
theorem setBIdxIx (b : BitVec 3) (d : Byte) : Statement (.setBIdxIx b d) := of_length 4 rfl (by decide)
theorem setBIdxIxR (b : BitVec 3) (d : Byte) (r : Reg8) : Statement (.setBIdxIxR b d r) :=
  of_length 4 rfl (by decide)
theorem resBIdxIx (b : BitVec 3) (d : Byte) : Statement (.resBIdxIx b d) := of_length 4 rfl (by decide)
theorem resBIdxIxR (b : BitVec 3) (d : Byte) (r : Reg8) : Statement (.resBIdxIxR b d r) :=
  of_length 4 rfl (by decide)
theorem jpIx : Statement .jpIx := of_length 2 rfl (by decide)
theorem ldRIdxIy (r : Reg8) (d : Byte) : Statement (.ldRIdxIy r d) := of_length 3 rfl (by decide)
theorem ldIdxIyR (d : Byte) (r : Reg8) : Statement (.ldIdxIyR d r) := of_length 3 rfl (by decide)
theorem ldIdxIyN (d : Byte) (n : Byte) : Statement (.ldIdxIyN d n) := of_length 4 rfl (by decide)
theorem ldPPIy (r : RegQ) (q : RegQ) : Statement (.ldPPIy r q) := of_length 2 rfl (by decide)
theorem ldIyhN (n : Byte) : Statement (.ldIyhN n) := of_length 3 rfl (by decide)
theorem ldIylN (n : Byte) : Statement (.ldIylN n) := of_length 3 rfl (by decide)
theorem ldIyNn (nn : Word) : Statement (.ldIyNn nn) := of_length 4 rfl (by decide)
theorem ldIyIndNn (nn : Word) : Statement (.ldIyIndNn nn) := of_length 4 rfl (by decide)
theorem ldIndNnIy (nn : Word) : Statement (.ldIndNnIy nn) := of_length 4 rfl (by decide)
theorem ldSpIy : Statement .ldSpIy := of_length 2 rfl (by decide)
theorem pushIy : Statement .pushIy := of_length 2 rfl (by decide)
theorem popIy : Statement .popIy := of_length 2 rfl (by decide)
theorem exIndSpIy : Statement .exIndSpIy := of_length 2 rfl (by decide)
theorem addAIdxIy (d : Byte) : Statement (.addAIdxIy d) := of_length 3 rfl (by decide)
theorem addAIyh : Statement .addAIyh := of_length 2 rfl (by decide)
theorem addAIyl : Statement .addAIyl := of_length 2 rfl (by decide)
theorem adcAIdxIy (d : Byte) : Statement (.adcAIdxIy d) := of_length 3 rfl (by decide)
theorem adcAIyh : Statement .adcAIyh := of_length 2 rfl (by decide)
theorem adcAIyl : Statement .adcAIyl := of_length 2 rfl (by decide)
theorem subIdxIy (d : Byte) : Statement (.subIdxIy d) := of_length 3 rfl (by decide)
theorem subIyh : Statement .subIyh := of_length 2 rfl (by decide)
theorem subIyl : Statement .subIyl := of_length 2 rfl (by decide)
theorem sbcAIdxIy (d : Byte) : Statement (.sbcAIdxIy d) := of_length 3 rfl (by decide)
theorem sbcAIyh : Statement .sbcAIyh := of_length 2 rfl (by decide)
theorem sbcAIyl : Statement .sbcAIyl := of_length 2 rfl (by decide)
theorem andIdxIy (d : Byte) : Statement (.andIdxIy d) := of_length 3 rfl (by decide)
theorem andIyh : Statement .andIyh := of_length 2 rfl (by decide)
theorem andIyl : Statement .andIyl := of_length 2 rfl (by decide)
theorem xorIdxIy (d : Byte) : Statement (.xorIdxIy d) := of_length 3 rfl (by decide)
theorem xorIyh : Statement .xorIyh := of_length 2 rfl (by decide)
theorem xorIyl : Statement .xorIyl := of_length 2 rfl (by decide)
theorem orIdxIy (d : Byte) : Statement (.orIdxIy d) := of_length 3 rfl (by decide)
theorem orIyh : Statement .orIyh := of_length 2 rfl (by decide)
theorem orIyl : Statement .orIyl := of_length 2 rfl (by decide)
theorem cpIdxIy (d : Byte) : Statement (.cpIdxIy d) := of_length 3 rfl (by decide)
theorem cpIyh : Statement .cpIyh := of_length 2 rfl (by decide)
theorem cpIyl : Statement .cpIyl := of_length 2 rfl (by decide)
theorem incIdxIy (d : Byte) : Statement (.incIdxIy d) := of_length 3 rfl (by decide)
theorem incIyh : Statement .incIyh := of_length 2 rfl (by decide)
theorem incIyl : Statement .incIyl := of_length 2 rfl (by decide)
theorem decIdxIy (d : Byte) : Statement (.decIdxIy d) := of_length 3 rfl (by decide)
theorem decIyh : Statement .decIyh := of_length 2 rfl (by decide)
theorem decIyl : Statement .decIyl := of_length 2 rfl (by decide)
theorem addIyRr (p : PairRr) : Statement (.addIyRr p) := of_length 2 rfl (by decide)
theorem incIy : Statement .incIy := of_length 2 rfl (by decide)
theorem decIy : Statement .decIy := of_length 2 rfl (by decide)
theorem rlcIdxIy (d : Byte) : Statement (.rlcIdxIy d) := of_length 4 rfl (by decide)
theorem rlcIdxIyR (d : Byte) (r : Reg8) : Statement (.rlcIdxIyR d r) := of_length 4 rfl (by decide)
theorem rrcIdxIy (d : Byte) : Statement (.rrcIdxIy d) := of_length 4 rfl (by decide)
theorem rrcIdxIyR (d : Byte) (r : Reg8) : Statement (.rrcIdxIyR d r) := of_length 4 rfl (by decide)
theorem rlIdxIy (d : Byte) : Statement (.rlIdxIy d) := of_length 4 rfl (by decide)
theorem rlIdxIyR (d : Byte) (r : Reg8) : Statement (.rlIdxIyR d r) := of_length 4 rfl (by decide)
theorem rrIdxIy (d : Byte) : Statement (.rrIdxIy d) := of_length 4 rfl (by decide)
theorem rrIdxIyR (d : Byte) (r : Reg8) : Statement (.rrIdxIyR d r) := of_length 4 rfl (by decide)
theorem slaIdxIy (d : Byte) : Statement (.slaIdxIy d) := of_length 4 rfl (by decide)
theorem slaIdxIyR (d : Byte) (r : Reg8) : Statement (.slaIdxIyR d r) := of_length 4 rfl (by decide)
theorem sraIdxIy (d : Byte) : Statement (.sraIdxIy d) := of_length 4 rfl (by decide)
theorem sraIdxIyR (d : Byte) (r : Reg8) : Statement (.sraIdxIyR d r) := of_length 4 rfl (by decide)
theorem sllIdxIy (d : Byte) : Statement (.sllIdxIy d) := of_length 4 rfl (by decide)
theorem sllIdxIyR (d : Byte) (r : Reg8) : Statement (.sllIdxIyR d r) := of_length 4 rfl (by decide)
theorem srlIdxIy (d : Byte) : Statement (.srlIdxIy d) := of_length 4 rfl (by decide)
theorem srlIdxIyR (d : Byte) (r : Reg8) : Statement (.srlIdxIyR d r) := of_length 4 rfl (by decide)
theorem bitBIdxIy (b : BitVec 3) (d : Byte) : Statement (.bitBIdxIy b d) := of_length 4 rfl (by decide)
theorem bitBIdxIyMirror (b : BitVec 3) (d : Byte) (r : Reg8) : Statement (.bitBIdxIyMirror b d r) :=
  of_length 4 rfl (by decide)
theorem setBIdxIy (b : BitVec 3) (d : Byte) : Statement (.setBIdxIy b d) := of_length 4 rfl (by decide)
theorem setBIdxIyR (b : BitVec 3) (d : Byte) (r : Reg8) : Statement (.setBIdxIyR b d r) :=
  of_length 4 rfl (by decide)
theorem resBIdxIy (b : BitVec 3) (d : Byte) : Statement (.resBIdxIy b d) := of_length 4 rfl (by decide)
theorem resBIdxIyR (b : BitVec 3) (d : Byte) (r : Reg8) : Statement (.resBIdxIyR b d r) :=
  of_length 4 rfl (by decide)
theorem jpIy : Statement .jpIy := of_length 2 rfl (by decide)

end Sys2Proof.Laws.Length
end

