-- ==== Sys2Proof/Tests/Slice0.lean ====
section
/-! SUPPORT. The model's own tests. The expected results come from spec/95_test_vectors.md (the vector's number ends the theorem's name) or from the encodings and examples of the rules named. Then the witnesses: states that meet the hypotheses of the statements. -/

namespace Sys2Proof.Machine.Tests

open Sys2Proof.Machine.Claim

/-! ### Small states -/

/-- A register set. -/
def bank (a f b c d e h l : Byte) : Bank :=
  { a := a, f := Flags.ofByte f, b := b, c := c, d := d, e := e, h := h, l := l }

/-- The start state of the vectors of part 2: SP = 0xFFF0, PC = 0x0100, ports answering 0xFF, the rest
zero. The draws of bits 5 and 3 of F are given as 0, so that F reads as the `F & 0xD7` of the vectors. -/
def start (m : Bank) (mem : Memory) : State :=
  { State.reset with
    main := m, sp := 0xFFF0#16, pc := 0x0100#16, mem := mem, anyIn := [0x00#8], portIn := [0xFF#8] }

/-- What `f` sees of the state after, if there is one. -/
def after {α : Type} (r : Result) (f : State → α) : Option α :=
  match r with
  | .next t => some (f t)
  | .fault _ => none
  | .refused _ => none

/-- Is there a next state? -/
def completes (r : Result) : Bool := (after r fun _ => ()).isSome

theorem exists_next {r : Result} (h : completes r = true) : ∃ t, r = .next t := by
  cases r with
  | next t => exact ⟨t, rfl⟩
  | fault f => cases h
  | refused f => cases h

/-! ### Decoding: words written out from the encodings of 30_encoding.md -/

theorem test_decode_ld_b_n : decodeBytes [0x06#8, 0x5A#8] = .ok (.ldRN .b 0x5A#8) := by decide
theorem test_decode_ld_a_b : decodeBytes [0x78#8] = .ok (.ldRR .a .b) := by decide
theorem test_decode_ld_iy_e_iyl : decodeBytes [0xFD#8, 0x5D#8] = .ok (.ldPPIy .e .iyl) := by decide
theorem test_decode_ld_bc_ind_nn : decodeBytes [0xED#8, 0x4B#8, 0x00#8, 0xC0#8] = .ok (.ldDdIndNn .bc 0xC000#16) := by decide
theorem test_decode_push_af : decodeBytes [0xF5#8] = .ok (.pushQq .af) := by decide
theorem test_decode_ex_ind_sp_ix : decodeBytes [0xDD#8, 0xE3#8] = .ok .exIndSpIx := by decide
theorem test_decode_cpdr : decodeBytes [0xED#8, 0xB9#8] = .ok .cpdr := by decide
theorem test_decode_halt : decodeBytes [0x76#8] = .ok .halt := by decide
theorem test_decode_im2 : decodeBytes [0xED#8, 0x5E#8] = .ok .im2 := by decide
theorem test_decode_sbc_a_h : decodeBytes [0x9C#8] = .ok (.sbcAR .h) := by decide
theorem test_decode_add_ix_ix : decodeBytes [0xDD#8, 0x29#8] = .ok (.addIxPp .ix) := by decide
theorem test_decode_sbc_hl_sp : decodeBytes [0xED#8, 0x72#8] = .ok (.sbcHlSs .sp) := by decide
theorem test_decode_sll_a : decodeBytes [0xCB#8, 0x37#8] = .ok (.sllR .a) := by decide
theorem test_decode_rl_idx_ix_b : decodeBytes [0xDD#8, 0xCB#8, 0x01#8, 0x10#8] = .ok (.rlIdxIxR 0x01#8 .b) := by decide
theorem test_decode_bit_6_ind_hl : decodeBytes [0xCB#8, 0x76#8] = .ok (.bitBIndHl 6#3) := by decide
theorem test_decode_set_3_l : decodeBytes [0xCB#8, 0xDD#8] = .ok (.setBR 3#3 .l) := by decide
theorem test_decode_jp_pe : decodeBytes [0xEA#8, 0x34#8, 0x12#8] = .ok (.jpCcNn .pe 0x1234#16) := by decide
theorem test_decode_rst_18 : decodeBytes [0xDF#8] = .ok (.rstP 3#3) := by decide
theorem test_decode_ret_m : decodeBytes [0xF8#8] = .ok (.retCc .m) := by decide
theorem test_decode_in_a_c : decodeBytes [0xED#8, 0x78#8] = .ok (.inRPortC .a) := by decide
theorem test_decode_otdr : decodeBytes [0xED#8, 0xBB#8] = .ok .otdr := by decide

/-! ### Ill-formed terms and words: `LD p,p'` needs an index half (R159) -/

theorem test_ill_formed_ldPPIx : ¬ (Instr.ldPPIx .b .c).WellFormed := by decide
theorem test_ill_formed_ldPPIy : ¬ (Instr.ldPPIy .a .e).WellFormed := by decide
theorem test_well_formed_ldPPIx : (Instr.ldPPIx .b .ixl).WellFormed := by decide
theorem test_no_instruction_dd41 : (decodeBytes [0xDD#8, 0x41#8]).toOption = none := by decide
theorem test_no_instruction_fd7b : (decodeBytes [0xFD#8, 0x7B#8]).toOption = none := by decide
theorem test_no_instruction_ed70 : (decodeBytes [0xED#8, 0x70#8]).toOption = none := by decide

/-! ### The table's numbering (log 13), and a step on a placed word -/

theorem test_table_word_high_first : decodeTableWord 32 0xED4B0000 = some (.ldDdIndNn .bc 0x0000#16) := by
  decide
theorem test_table_word_low_first : decodeTableWord 16 0x37CB = some (.sllR .a) := by decide
theorem test_table_word_low_first_cb : decodeTableWord 16 0x0ECB = some .rrcIndHl := by decide
theorem test_withFetchWord_first_after_reset :
    after (step (State.reset.withFetchWord 24 0x31D0FF)) (fun t => (t.sp, t.pc)) =
      some (0xFFD0#16, 0x0003#16) := by decide

/-! ### One step on the start state of a vector -/

theorem test_ld_b_c_L8_1 :
    after (step (start (bank 0 0 0 0x5A 0 0 0 0) [(0x0100, 0x41#8)]))
      (fun t => (t.main.bc, t.pc, t.r, t.returned)) =
    some (0x5A5A#16, 0x0101#16, 0x01#8, 4) := by decide
theorem test_ld_h_ind_hl_L8_5 :
    after (step (start (bank 0 0 0 0 0 0 0xC0 0) [(0x0100, 0x66#8), (0xc000, 0x12#8)]))
      (fun t => (t.main.hl, t.pc, t.r, t.returned)) =
    some (0x1200#16, 0x0101#16, 0x01#8, 7) := by decide
theorem test_ld_ind_hl_n_L8_8 :
    after (step (start (bank 0 0 0 0 0 0 0xFF 0xFF) [(0x0100, 0x36#8), (0x0101, 0xAB#8)]))
      (fun t => (t.peek 0xFFFF#16, t.pc, t.r, t.returned)) =
    some (0xAB#8, 0x0102#16, 0x02#8, 10) := by decide
theorem test_ld_h_idx_iy_L8_10 :
    after (step { start (bank 0 0 0 0 0 0 0 0) [(0x006f, 0x33#8), (0x0100, 0xFD#8), (0x0101, 0x66#8),
      (0x0102, 0x7F#8)] with
      iy := 0xFFF0#16 })
      (fun t => (t.main.hl, t.pc, t.r, t.returned)) =
    some (0x3300#16, 0x0103#16, 0x03#8, 19) := by decide
theorem test_ld_idx_ix_l_L8_11 :
    after (step { start (bank 0 0 0 0 0 0 0x12 0xEE) [(0x0100, 0xDD#8), (0x0101, 0x75#8), (0x0102,
      0x01#8)] with
      ix := 0xC000#16 })
      (fun t => (t.peek 0xC001#16, t.pc, t.r, t.returned)) =
    some (0xEE#8, 0x0103#16, 0x03#8, 19) := by decide
theorem test_ld_idx_iy_n_L8_12 :
    after (step { start (bank 0 0 0 0 0 0 0 0) [(0x0100, 0xFD#8), (0x0101, 0x36#8), (0x0102, 0x80#8),
      (0x0103, 0x5C#8)] with
      iy := 0xC080#16 })
      (fun t => (t.peek 0xC000#16, t.pc, t.r, t.returned)) =
    some (0x5C#8, 0x0104#16, 0x04#8, 19) := by decide
theorem test_ld_a_ind_nn_L8_15 :
    after (step (start (bank 0 0 0 0 0 0 0 0) [(0x0100, 0x3A#8), (0x0101, 0x34#8), (0x0102, 0x12#8),
      (0x1234, 0x56#8)]))
      (fun t => (t.main.a, t.pc, t.r, t.returned)) =
    some (0x56#8, 0x0103#16, 0x03#8, 13) := by decide
theorem test_ld_ind_de_a_L8_17 :
    after (step (start (bank 0x5A 0 0 0 0xC0 0x11 0 0) [(0x0100, 0x12#8)]))
      (fun t => (t.peek 0xC011#16, t.pc, t.r, t.returned)) =
    some (0x5A#8, 0x0101#16, 0x01#8, 7) := by decide
theorem test_ld_a_i_L8_19 :
    after (step { start (bank 0 0x01 0 0 0 0 0 0) [(0x0100, 0xED#8), (0x0101, 0x57#8)] with
      iff2 := true })
      (fun t => (t.main.f.toByte, t.pc, t.r, t.returned)) =
    some (0x45#8, 0x0102#16, 0x02#8, 9) := by decide
theorem test_ld_a_r_L8_22 :
    after (step { start (bank 0 0 0 0 0 0 0 0) [(0x0100, 0xED#8), (0x0101, 0x5F#8)] with
      r := 0xFF#8 })
      (fun t => (t.main.a, t.main.f.toByte, t.pc, t.r, t.returned)) =
    some (0x81#8, 0x80#8, 0x0102#16, 0x81#8, 9) := by decide
theorem test_ld_i_a_L8_23 :
    after (step (start (bank 0x3C 0 0 0 0 0 0 0) [(0x0100, 0xED#8), (0x0101, 0x47#8)]))
      (fun t => (t.i, t.pc, t.r, t.returned)) =
    some (0x3C#8, 0x0102#16, 0x02#8, 9) := by decide
theorem test_ld_r_a_L8_24 :
    after (step { start (bank 0x85 0 0 0 0 0 0 0) [(0x0100, 0xED#8), (0x0101, 0x4F#8)] with
      r := 0x10#8 })
      (fun t => (t.pc, t.r, t.returned)) =
    some (0x0102#16, 0x85#8, 9) := by decide
theorem test_ld_ixh_n_L8_25 :
    after (step { start (bank 0 0 0 0 0 0 0 0) [(0x0100, 0xDD#8), (0x0101, 0x26#8), (0x0102, 0x12#8)] with
      ix := 0x00FF#16 })
      (fun t => (t.ix, t.pc, t.r, t.returned)) =
    some (0x12FF#16, 0x0103#16, 0x03#8, 11) := by decide
theorem test_ld_ixh_ixl_L8_28 :
    after (step { start (bank 0 0 0 0 0 0 0x55 0x66) [(0x0100, 0xDD#8), (0x0101, 0x65#8)] with
      ix := 0x12AB#16 })
      (fun t => (t.ix, t.pc, t.r, t.returned)) =
    some (0xABAB#16, 0x0102#16, 0x02#8, 8) := by decide
theorem test_ld_b_iyh_L8_29 :
    after (step { start (bank 0 0 0 0 0 0 0x11 0) [(0x0100, 0xFD#8), (0x0101, 0x44#8)] with
      iy := 0x9A00#16 })
      (fun t => (t.main.bc, t.pc, t.r, t.returned)) =
    some (0x9A00#16, 0x0102#16, 0x02#8, 8) := by decide
theorem test_ld_sp_nn_L16_2 :
    after (step (start (bank 0 0 0 0 0 0 0 0) [(0x0100, 0x31#8), (0x0102, 0xD0#8)]))
      (fun t => (t.sp, t.pc, t.r, t.returned)) =
    some (0xD000#16, 0x0103#16, 0x03#8, 10) := by decide
theorem test_ld_hl_ind_nn_L16_6 :
    after (step (start (bank 0 0 0 0 0 0 0 0) [(0x0000, 0x22#8), (0x0100, 0x2A#8), (0x0101, 0xFF#8),
      (0x0102, 0xFF#8), (0xffff, 0x11#8)]))
      (fun t => (t.main.hl, t.pc, t.r, t.returned)) =
    some (0x2211#16, 0x0103#16, 0x03#8, 16) := by decide
theorem test_ld_sp_ind_nn_L16_8 :
    after (step (start (bank 0 0 0 0 0 0 0 0) [(0x0100, 0xED#8), (0x0101, 0x7B#8), (0x0103, 0xC0#8),
      (0xc001, 0xD0#8)]))
      (fun t => (t.sp, t.pc, t.r, t.returned)) =
    some (0xD000#16, 0x0104#16, 0x04#8, 20) := by decide
theorem test_ld_ix_ind_nn_L16_10 :
    after (step (start (bank 0 0 0 0 0 0 0 0) [(0x0100, 0xDD#8), (0x0101, 0x2A#8), (0x0103, 0xC0#8),
      (0xc000, 0x0D#8), (0xc001, 0xF0#8)]))
      (fun t => (t.ix, t.pc, t.r, t.returned)) =
    some (0xF00D#16, 0x0104#16, 0x04#8, 20) := by decide
theorem test_ld_ind_nn_hl_L16_12 :
    after (step (start (bank 0 0 0 0 0 0 0xA1 0xB2) [(0x0100, 0x22#8), (0x0101, 0xFF#8), (0x0102, 0xFF#8)]))
      (fun t => (t.peek 0xFFFF#16, t.peek 0x0000#16, t.pc, t.r, t.returned)) =
    some (0xB2#8, 0xA1#8, 0x0103#16, 0x03#8, 16) := by decide
theorem test_ld_ind_nn_sp_L16_14 :
    after (step { start (bank 0 0 0 0 0 0 0 0) [(0x0100, 0xED#8), (0x0101, 0x73#8), (0x0102, 0x10#8),
      (0x0103, 0xC0#8)] with
      sp := 0xDFF0#16 })
      (fun t => (t.peek 0xC010#16, t.peek 0xC011#16, t.pc, t.r, t.returned)) =
    some (0xF0#8, 0xDF#8, 0x0104#16, 0x04#8, 20) := by decide
theorem test_ld_sp_ix_L16_17 :
    after (step { start (bank 0 0 0 0 0 0 0 0) [(0x0100, 0xDD#8), (0x0101, 0xF9#8)] with
      ix := 0xD123#16 })
      (fun t => (t.sp, t.pc, t.r, t.returned)) =
    some (0xD123#16, 0x0102#16, 0x02#8, 10) := by decide
theorem test_push_af_L16_19 :
    after (step (start (bank 0x12 0xFF 0 0 0 0 0 0) [(0x0100, 0xF5#8)]))
      (fun t => ((t.sp, t.peek 0xFFEF#16, t.peek 0xFFEE#16), (t.pc, t.r, t.returned))) =
    some ((0xFFEE#16, 0x12#8, 0xFF#8), (0x0101#16, 0x01#8, 11)) := by decide
theorem test_push_hl_L16_20 :
    after (step { start (bank 0 0 0 0 0 0 0xBE 0xEF) [(0x0100, 0xE5#8)] with
      sp := 0x0001#16 })
      (fun t => ((t.sp, t.peek 0x0000#16, t.peek 0xFFFF#16), (t.pc, t.r, t.returned))) =
    some ((0xFFFF#16, 0xBE#8, 0xEF#8), (0x0101#16, 0x01#8, 11)) := by decide
theorem test_pop_af_L16_23 :
    after (step { start (bank 0 0 0 0 0 0 0 0) [(0x0100, 0xF1#8), (0xc000, 0xFF#8), (0xc001, 0x80#8)] with
      sp := 0xC000#16 })
      (fun t => ((t.main.a, t.main.f.toByte, t.sp), (t.pc, t.r, t.returned))) =
    some ((0x80#8, 0xFF#8, 0xC002#16), (0x0101#16, 0x01#8, 10)) := by decide
theorem test_pop_iy_L16_24 :
    after (step { start (bank 0 0 0 0 0 0 0 0) [(0x0000, 0xAB#8), (0x0100, 0xFD#8), (0x0101, 0xE1#8),
      (0xffff, 0xCD#8)] with
      sp := 0xFFFF#16 })
      (fun t => (t.iy, t.sp, t.pc, t.r, t.returned)) =
    some (0xABCD#16, 0x0001#16, 0x0102#16, 0x02#8, 14) := by decide
theorem test_ex_de_hl_XB_1 :
    after (step (start (bank 0 0 0 0 0x11 0x11 0x22 0x22) [(0x0100, 0xEB#8)]))
      (fun t => (t.main.de, t.main.hl, t.pc, t.r, t.returned)) =
    some (0x2222#16, 0x1111#16, 0x0101#16, 0x01#8, 4) := by decide
theorem test_ex_af_af_XB_2 :
    after (step { start (bank 0x12 0xFF 0 0 0 0 0 0) [(0x0100, 0x08#8)] with
      alt := bank 0x34 0 0 0 0 0 0 0 })
      (fun t => ((t.main.a, t.main.f.toByte, t.alt.a, t.alt.f.toByte), (t.pc, t.r, t.returned))) =
    some ((0x34#8, 0x00#8, 0x12#8, 0xFF#8), (0x0101#16, 0x01#8, 4)) := by decide
theorem test_exx_XB_3 :
    after (step { start (bank 0 0 0x01 0x02 0x03 0x04 0x05 0x06) [(0x0100, 0xD9#8)] with
      alt := bank 0 0 0x11 0x12 0x13 0x14 0x15 0x16 })
      (fun t => ((t.main.bc, t.main.de, t.main.hl), (t.alt.bc, t.alt.de, t.alt.hl), t.pc, t.r,
        t.returned)) =
    some ((0x1112#16, 0x1314#16, 0x1516#16), (0x0102#16, 0x0304#16, 0x0506#16), 0x0101#16, 0x01#8,
      4) := by decide
theorem test_ex_ind_sp_hl_XB_4 :
    after (step { start (bank 0 0 0 0 0 0 0x12 0x34) [(0x0100, 0xE3#8), (0xc000, 0x78#8), (0xc001,
      0x56#8)] with
      sp := 0xC000#16 })
      (fun t => ((t.main.hl, t.peek 0xC001#16, t.peek 0xC000#16), (t.pc, t.r, t.returned))) =
    some ((0x5678#16, 0x12#8, 0x34#8), (0x0101#16, 0x01#8, 19)) := by decide
theorem test_ex_ind_sp_ix_XB_5 :
    after (step { start (bank 0 0 0 0 0 0 0 0) [(0x0100, 0xDD#8), (0x0101, 0xE3#8), (0xc000, 0x22#8),
      (0xc001, 0x11#8)] with
      ix := 0xAAAA#16, sp := 0xC000#16 })
      (fun t => ((t.ix, t.peek 0xC001#16, t.peek 0xC000#16), (t.pc, t.r, t.returned))) =
    some ((0x1122#16, 0xAA#8, 0xAA#8), (0x0102#16, 0x02#8, 23)) := by decide
theorem test_ldi_XB_6 :
    after (step (start (bank 0 0xD7 0 0x02 0xD0 0 0xC0 0) [(0x0100, 0xED#8), (0x0101, 0xA0#8), (0xc000,
      0x5A#8)]))
      (fun t => ((t.main.f.toByte, t.main.bc, t.main.de, t.main.hl, t.peek 0xD000#16), (t.pc, t.r,
        t.returned))) =
    some ((0xC5#8, 0x0001#16, 0xD001#16, 0xC001#16, 0x5A#8), (0x0102#16, 0x02#8, 16)) := by decide
theorem test_ldd_XB_8 :
    after (step (start (bank 0 0 0 0 0 0 0xC0 0) [(0x0100, 0xED#8), (0x0101, 0xA8#8), (0xc000, 0x77#8)]))
      (fun t => ((t.main.f.toByte, t.main.bc, t.main.de, t.main.hl, t.peek 0x0000#16), (t.pc, t.r,
        t.returned))) =
    some ((0x04#8, 0xFFFF#16, 0xFFFF#16, 0xBFFF#16, 0x77#8), (0x0102#16, 0x02#8, 16)) := by decide
theorem test_ldir_XB_10 :
    after (step (start (bank 0 0 0 0x03 0xD0 0 0xC0 0) [(0x0100, 0xED#8), (0x0101, 0xB0#8), (0xc000,
      0x01#8), (0xc001, 0x02#8), (0xc002, 0x03#8)]))
      (fun t => ((t.main.f.toByte, t.main.bc, t.main.de, t.main.hl, t.peek 0xD000#16), (t.pc, t.r,
        t.returned))) =
    some ((0x04#8, 0x0002#16, 0xD001#16, 0xC001#16, 0x01#8), (0x0100#16, 0x02#8, 21)) := by decide
theorem test_cpi_XB_13 :
    after (step (start (bank 0x42 0x01 0 0x05 0 0 0xC0 0) [(0x0100, 0xED#8), (0x0101, 0xA1#8), (0xc000,
      0x42#8)]))
      (fun t => ((t.main.f.toByte, t.main.bc, t.main.hl), (t.pc, t.r, t.returned))) =
    some ((0x47#8, 0x0004#16, 0xC001#16), (0x0102#16, 0x02#8, 16)) := by decide
theorem test_cpd_XB_15 :
    after (step (start (bank 0 0 0 0x02 0 0 0xC0 0) [(0x0100, 0xED#8), (0x0101, 0xA9#8), (0xc000, 0x01#8)]))
      (fun t => ((t.main.f.toByte, t.main.bc, t.main.hl), (t.pc, t.r, t.returned))) =
    some ((0x96#8, 0x0001#16, 0xBFFF#16), (0x0102#16, 0x02#8, 16)) := by decide
theorem test_daa_GM_1 :
    after (step (start (bank 0x9A 0 0 0 0 0 0 0) [(0x0100, 0x27#8)]))
      (fun t => (t.main.a, t.main.f.toByte, t.pc, t.r, t.returned)) =
    some (0x00#8, 0x55#8, 0x0101#16, 0x01#8, 4) := by decide
theorem test_daa_GM_6 :
    after (step (start (bank 0x7D 0x12 0 0 0 0 0 0) [(0x0100, 0x27#8)]))
      (fun t => (t.main.a, t.main.f.toByte, t.pc, t.r, t.returned)) =
    some (0x77#8, 0x06#8, 0x0101#16, 0x01#8, 4) := by decide
theorem test_cpl_GM_11 :
    after (step (start (bank 0x5A 0x41 0 0 0 0 0 0) [(0x0100, 0x2F#8)]))
      (fun t => (t.main.a, t.main.f.toByte, t.pc, t.r, t.returned)) =
    some (0xA5#8, 0x53#8, 0x0101#16, 0x01#8, 4) := by decide
theorem test_neg_GM_13 :
    after (step (start (bank 0 0xD7 0 0 0 0 0 0) [(0x0100, 0xED#8), (0x0101, 0x44#8)]))
      (fun t => (t.main.f.toByte, t.pc, t.r, t.returned)) =
    some (0x42#8, 0x0102#16, 0x02#8, 8) := by decide
theorem test_ccf_GM_15 :
    after (step (start (bank 0 0x01 0 0 0 0 0 0) [(0x0100, 0x3F#8)]))
      (fun t => (t.main.f.toByte, t.pc, t.r, t.returned)) =
    some (0x10#8, 0x0101#16, 0x01#8, 4) := by decide
theorem test_scf_GM_17 :
    after (step (start (bank 0 0x92 0 0 0 0 0 0) [(0x0100, 0x37#8)]))
      (fun t => (t.main.f.toByte, t.pc, t.r, t.returned)) =
    some (0x81#8, 0x0101#16, 0x01#8, 4) := by decide
theorem test_nop_GM_18 :
    after (step (start (bank 0 0 0 0 0 0 0 0) []))
      (fun t => (t.pc, t.r, t.returned)) =
    some (0x0101#16, 0x01#8, 4) := by decide
theorem test_di_GM_22 :
    after (step { start (bank 0 0 0 0 0 0 0 0) [(0x0100, 0xF3#8)] with
      iff1 := true, iff2 := true })
      (fun t => (t.iff1, t.iff2, t.pc, t.r, t.returned)) =
    some (false, false, 0x0101#16, 0x01#8, 4) := by decide
theorem test_ei_GM_23 :
    after (step (start (bank 0 0 0 0 0 0 0 0) [(0x0100, 0xFB#8)]))
      (fun t => (t.eiSt, t.pc, t.r, t.returned)) =
    some (.waiting, 0x0101#16, 0x01#8, 4) := by decide
theorem test_im_0_GM_31 :
    after (step { start (bank 0 0 0 0 0 0 0 0) [(0x0100, 0xED#8), (0x0101, 0x46#8)] with
      im := .im2 })
      (fun t => (t.im, t.pc, t.r, t.returned)) =
    some (.im0, 0x0102#16, 0x02#8, 8) := by decide
theorem test_add_a_n_A8_1 :
    after (step (start (bank 0x0F 0 0 0 0 0 0 0) [(0x0100, 0xC6#8), (0x0101, 0x01#8)]))
      (fun t => (t.main.a, t.main.f.toByte, t.pc, t.r, t.returned)) =
    some (0x10#8, 0x10#8, 0x0102#16, 0x02#8, 7) := by decide
theorem test_add_a_a_A8_4 :
    after (step (start (bank 0x80 0 0 0 0 0 0 0) [(0x0100, 0x87#8)]))
      (fun t => (t.main.a, t.main.f.toByte, t.pc, t.r, t.returned)) =
    some (0x00#8, 0x45#8, 0x0101#16, 0x01#8, 4) := by decide
theorem test_add_a_ixh_A8_7 :
    after (step { start (bank 0x01 0 0 0 0 0 0 0) [(0x0100, 0xDD#8), (0x0101, 0x84#8)] with
      ix := 0x0F00#16 })
      (fun t => (t.main.a, t.main.f.toByte, t.pc, t.r, t.returned)) =
    some (0x10#8, 0x10#8, 0x0102#16, 0x02#8, 8) := by decide
theorem test_adc_a_b_A8_8 :
    after (step (start (bank 0x0F 0x01 0 0 0 0 0 0) [(0x0100, 0x88#8)]))
      (fun t => (t.main.a, t.main.f.toByte, t.pc, t.r, t.returned)) =
    some (0x10#8, 0x10#8, 0x0101#16, 0x01#8, 4) := by decide
theorem test_sub_n_A8_13 :
    after (step (start (bank 0x80 0 0 0 0 0 0 0) [(0x0100, 0xD6#8), (0x0101, 0x01#8)]))
      (fun t => (t.main.a, t.main.f.toByte, t.pc, t.r, t.returned)) =
    some (0x7F#8, 0x16#8, 0x0102#16, 0x02#8, 7) := by decide
theorem test_sbc_a_b_A8_15 :
    after (step (start (bank 0 0x01 0xFF 0 0 0 0 0) [(0x0100, 0x98#8)]))
      (fun t => (t.main.f.toByte, t.pc, t.r, t.returned)) =
    some (0x53#8, 0x0101#16, 0x01#8, 4) := by decide
theorem test_sbc_a_ind_hl_A8_17 :
    after (step (start (bank 0x80 0x01 0 0 0 0 0xC0 0) [(0x0100, 0x9E#8)]))
      (fun t => (t.main.a, t.main.f.toByte, t.pc, t.r, t.returned)) =
    some (0x7F#8, 0x16#8, 0x0101#16, 0x01#8, 7) := by decide
theorem test_and_b_A8_18 :
    after (step (start (bank 0xF0 0x03 0x0F 0 0 0 0 0) [(0x0100, 0xA0#8)]))
      (fun t => (t.main.a, t.main.f.toByte, t.pc, t.r, t.returned)) =
    some (0x00#8, 0x54#8, 0x0101#16, 0x01#8, 4) := by decide
theorem test_xor_a_A8_21 :
    after (step (start (bank 0x5A 0xD7 0 0 0 0 0 0) [(0x0100, 0xAF#8)]))
      (fun t => (t.main.a, t.main.f.toByte, t.pc, t.r, t.returned)) =
    some (0x00#8, 0x44#8, 0x0101#16, 0x01#8, 4) := by decide
theorem test_or_idx_iy_A8_25 :
    after (step { start (bank 0x80 0 0 0 0 0 0 0) [(0x0100, 0xFD#8), (0x0101, 0xB6#8), (0x0102, 0xFF#8),
      (0xc000, 0x01#8)] with
      iy := 0xC001#16 })
      (fun t => (t.main.a, t.main.f.toByte, t.pc, t.r, t.returned)) =
    some (0x81#8, 0x84#8, 0x0103#16, 0x03#8, 19) := by decide
theorem test_cp_ind_hl_A8_28 :
    after (step (start (bank 0x7F 0 0 0 0 0 0xC0 0) [(0x0100, 0xBE#8), (0xc000, 0xFF#8)]))
      (fun t => (t.main.f.toByte, t.pc, t.r, t.returned)) =
    some (0x87#8, 0x0101#16, 0x01#8, 7) := by decide
theorem test_inc_a_A8_29 :
    after (step (start (bank 0x7F 0x01 0 0 0 0 0 0) [(0x0100, 0x3C#8)]))
      (fun t => (t.main.a, t.main.f.toByte, t.pc, t.r, t.returned)) =
    some (0x80#8, 0x95#8, 0x0101#16, 0x01#8, 4) := by decide
theorem test_inc_idx_ix_A8_33 :
    after (step { start (bank 0 0 0 0 0 0 0 0) [(0x0100, 0xDD#8), (0x0101, 0x34#8), (0x0102, 0x05#8),
      (0xc005, 0x7F#8)] with
      ix := 0xC000#16 })
      (fun t => (t.main.f.toByte, t.peek 0xC005#16, t.pc, t.r, t.returned)) =
    some (0x94#8, 0x80#8, 0x0103#16, 0x03#8, 23) := by decide
theorem test_inc_ixh_A8_34 :
    after (step { start (bank 0 0 0 0 0 0 0 0) [(0x0100, 0xDD#8), (0x0101, 0x24#8)] with
      ix := 0xFF12#16 })
      (fun t => (t.main.f.toByte, t.ix, t.pc, t.r, t.returned)) =
    some (0x50#8, 0x0012#16, 0x0102#16, 0x02#8, 8) := by decide
theorem test_dec_a_A8_36 :
    after (step (start (bank 0 0x01 0 0 0 0 0 0) [(0x0100, 0x3D#8)]))
      (fun t => (t.main.a, t.main.f.toByte, t.pc, t.r, t.returned)) =
    some (0xFF#8, 0x93#8, 0x0101#16, 0x01#8, 4) := by decide
theorem test_dec_idx_iy_A8_39 :
    after (step { start (bank 0 0 0 0 0 0 0 0) [(0x0100, 0xFD#8), (0x0101, 0x35#8), (0xc000, 0x01#8)] with
      iy := 0xC000#16 })
      (fun t => (t.main.f.toByte, t.peek 0xC000#16, t.pc, t.r, t.returned)) =
    some (0x42#8, 0x00#8, 0x0103#16, 0x03#8, 23) := by decide
theorem test_add_hl_bc_A16_1 :
    after (step (start (bank 0 0xC6 0 0x01 0 0 0x0F 0xFF) [(0x0100, 0x09#8)]))
      (fun t => (t.main.f.toByte, t.main.hl, t.pc, t.r, t.returned)) =
    some (0xD4#8, 0x1000#16, 0x0101#16, 0x01#8, 11) := by decide
theorem test_adc_hl_bc_A16_4 :
    after (step (start (bank 0 0x01 0 0 0 0 0x7F 0xFF) [(0x0100, 0xED#8), (0x0101, 0x4A#8)]))
      (fun t => (t.main.f.toByte, t.main.hl, t.pc, t.r, t.returned)) =
    some (0x94#8, 0x8000#16, 0x0102#16, 0x02#8, 15) := by decide
theorem test_sbc_hl_hl_A16_9 :
    after (step (start (bank 0 0x01 0 0 0 0 0x40 0) [(0x0100, 0xED#8), (0x0101, 0x62#8)]))
      (fun t => (t.main.f.toByte, t.main.hl, t.pc, t.r, t.returned)) =
    some (0x93#8, 0xFFFF#16, 0x0102#16, 0x02#8, 15) := by decide
theorem test_add_ix_de_A16_11 :
    after (step { start (bank 0 0x40 0 0 0 0x01 0 0) [(0x0100, 0xDD#8), (0x0101, 0x19#8)] with
      ix := 0xFFFF#16 })
      (fun t => (t.main.f.toByte, t.ix, t.pc, t.r, t.returned)) =
    some (0x51#8, 0x0000#16, 0x0102#16, 0x02#8, 15) := by decide
theorem test_add_iy_sp_A16_13 :
    after (step { start (bank 0 0 0 0 0 0 0 0) [(0x0100, 0xFD#8), (0x0101, 0x39#8)] with
      iy := 0x1000#16, sp := 0x0234#16 })
      (fun t => (t.main.f.toByte, t.iy, t.pc, t.r, t.returned)) =
    some (0x00#8, 0x1234#16, 0x0102#16, 0x02#8, 15) := by decide
theorem test_inc_sp_A16_15 :
    after (step { start (bank 0 0 0 0 0 0 0 0) [(0x0100, 0x33#8)] with
      sp := 0xFFFF#16 })
      (fun t => (t.sp, t.pc, t.r, t.returned)) =
    some (0x0000#16, 0x0101#16, 0x01#8, 6) := by decide
theorem test_dec_iy_A16_18 :
    after (step (start (bank 0 0 0 0 0 0 0 0) [(0x0100, 0xFD#8), (0x0101, 0x2B#8)]))
      (fun t => (t.iy, t.pc, t.r, t.returned)) =
    some (0xFFFF#16, 0x0102#16, 0x02#8, 10) := by decide
theorem test_rlca_RS_1 :
    after (step (start (bank 0x81 0xD6 0 0 0 0 0 0) [(0x0100, 0x07#8)]))
      (fun t => (t.main.a, t.main.f.toByte, t.pc, t.r, t.returned)) =
    some (0x03#8, 0xC5#8, 0x0101#16, 0x01#8, 4) := by decide
theorem test_rrca_RS_2 :
    after (step (start (bank 0x01 0 0 0 0 0 0 0) [(0x0100, 0x0F#8)]))
      (fun t => (t.main.a, t.main.f.toByte, t.pc, t.r, t.returned)) =
    some (0x80#8, 0x01#8, 0x0101#16, 0x01#8, 4) := by decide
theorem test_rla_RS_3 :
    after (step (start (bank 0x80 0 0 0 0 0 0 0) [(0x0100, 0x17#8)]))
      (fun t => (t.main.a, t.main.f.toByte, t.pc, t.r, t.returned)) =
    some (0x00#8, 0x01#8, 0x0101#16, 0x01#8, 4) := by decide
theorem test_rra_RS_5 :
    after (step (start (bank 0x01 0x01 0 0 0 0 0 0) [(0x0100, 0x1F#8)]))
      (fun t => (t.main.a, t.main.f.toByte, t.pc, t.r, t.returned)) =
    some (0x80#8, 0x01#8, 0x0101#16, 0x01#8, 4) := by decide
theorem test_rlc_b_RS_6 :
    after (step (start (bank 0 0 0x80 0 0 0 0 0) [(0x0100, 0xCB#8)]))
      (fun t => (t.main.f.toByte, t.main.bc, t.pc, t.r, t.returned)) =
    some (0x01#8, 0x0100#16, 0x0102#16, 0x02#8, 8) := by decide
theorem test_rrc_c_RS_8 :
    after (step (start (bank 0 0 0 0x01 0 0 0 0) [(0x0100, 0xCB#8), (0x0101, 0x09#8)]))
      (fun t => (t.main.f.toByte, t.main.bc, t.pc, t.r, t.returned)) =
    some (0x81#8, 0x0080#16, 0x0102#16, 0x02#8, 8) := by decide
theorem test_rr_e_RS_10 :
    after (step (start (bank 0 0x01 0 0 0 0x01 0 0) [(0x0100, 0xCB#8), (0x0101, 0x1B#8)]))
      (fun t => (t.main.f.toByte, t.main.de, t.pc, t.r, t.returned)) =
    some (0x81#8, 0x0080#16, 0x0102#16, 0x02#8, 8) := by decide
theorem test_sla_h_RS_11 :
    after (step (start (bank 0 0 0 0 0 0 0xC0 0) [(0x0100, 0xCB#8), (0x0101, 0x24#8)]))
      (fun t => (t.main.f.toByte, t.main.hl, t.pc, t.r, t.returned)) =
    some (0x81#8, 0x8000#16, 0x0102#16, 0x02#8, 8) := by decide
theorem test_sra_l_RS_12 :
    after (step (start (bank 0 0 0 0 0 0 0 0x81) [(0x0100, 0xCB#8), (0x0101, 0x2D#8)]))
      (fun t => (t.main.f.toByte, t.main.hl, t.pc, t.r, t.returned)) =
    some (0x85#8, 0x00C0#16, 0x0102#16, 0x02#8, 8) := by decide
theorem test_sll_a_RS_13 :
    after (step (start (bank 0x80 0 0 0 0 0 0 0) [(0x0100, 0xCB#8), (0x0101, 0x37#8)]))
      (fun t => (t.main.a, t.main.f.toByte, t.pc, t.r, t.returned)) =
    some (0x01#8, 0x01#8, 0x0102#16, 0x02#8, 8) := by decide
theorem test_srl_ind_hl_RS_16 :
    after (step (start (bank 0 0 0 0 0 0 0xC0 0) [(0x0100, 0xCB#8), (0x0101, 0x3E#8), (0xc000, 0xFF#8)]))
      (fun t => (t.main.f.toByte, t.peek 0xC000#16, t.pc, t.r, t.returned)) =
    some (0x01#8, 0x7F#8, 0x0102#16, 0x02#8, 15) := by decide
theorem test_sra_idx_iy_RS_18 :
    after (step { start (bank 0 0 0 0 0 0 0 0) [(0x0100, 0xFD#8), (0x0101, 0xCB#8), (0x0102, 0xFF#8),
      (0x0103, 0x2E#8), (0xc000, 0x82#8)] with
      iy := 0xC001#16 })
      (fun t => (t.main.f.toByte, t.peek 0xC000#16, t.pc, t.r, t.returned)) =
    some (0x80#8, 0xC1#8, 0x0104#16, 0x04#8, 23) := by decide
theorem test_rl_idx_ix_b_RS_19 :
    after (step { start (bank 0 0 0x99 0 0 0 0 0) [(0x0100, 0xDD#8), (0x0101, 0xCB#8), (0x0102, 0x01#8),
      (0x0103, 0x10#8), (0xc001, 0x81#8)] with
      ix := 0xC000#16 })
      (fun t => ((t.main.f.toByte, t.main.bc, t.peek 0xC001#16), (t.pc, t.r, t.returned))) =
    some ((0x01#8, 0x0200#16, 0x02#8), (0x0104#16, 0x04#8, 23)) := by decide
theorem test_sll_idx_iy_a_RS_20 :
    after (step { start (bank 0 0 0 0 0 0 0 0) [(0x0100, 0xFD#8), (0x0101, 0xCB#8), (0x0103, 0x37#8)] with
      iy := 0xC000#16 })
      (fun t => ((t.main.a, t.main.f.toByte, t.peek 0xC000#16), (t.pc, t.r, t.returned))) =
    some ((0x01#8, 0x00#8, 0x01#8), (0x0104#16, 0x04#8, 23)) := by decide
theorem test_rld_RS_21 :
    after (step (start (bank 0x7A 0x01 0 0 0 0 0xC0 0) [(0x0100, 0xED#8), (0x0101, 0x6F#8), (0xc000,
      0x31#8)]))
      (fun t => ((t.main.a, t.main.f.toByte, t.peek 0xC000#16), (t.pc, t.r, t.returned))) =
    some ((0x73#8, 0x01#8, 0x1A#8), (0x0102#16, 0x02#8, 18)) := by decide
theorem test_rrd_RS_22 :
    after (step (start (bank 0x84 0 0 0 0 0 0xC0 0) [(0x0100, 0xED#8), (0x0101, 0x67#8), (0xc000, 0x20#8)]))
      (fun t => ((t.main.a, t.main.f.toByte, t.peek 0xC000#16), (t.pc, t.r, t.returned))) =
    some ((0x80#8, 0x80#8, 0x42#8), (0x0102#16, 0x02#8, 18)) := by decide
theorem test_bit_7_a_BT_1 :
    after (step (start (bank 0x80 0x03 0 0 0 0 0 0) [(0x0100, 0xCB#8), (0x0101, 0x7F#8)]))
      (fun t => (t.main.f.toByte, t.pc, t.r, t.returned)) =
    some (0x91#8, 0x0102#16, 0x02#8, 8) := by decide
theorem test_bit_7_b_BT_3 :
    after (step (start (bank 0 0 0x7F 0 0 0 0 0) [(0x0100, 0xCB#8), (0x0101, 0x78#8)]))
      (fun t => (t.main.f.toByte, t.pc, t.r, t.returned)) =
    some (0x54#8, 0x0102#16, 0x02#8, 8) := by decide
theorem test_bit_6_ind_hl_BT_5 :
    after (step (start (bank 0 0 0 0 0 0 0xC0 0) [(0x0100, 0xCB#8), (0x0101, 0x76#8)]))
      (fun t => (t.main.f.toByte, t.pc, t.r, t.returned)) =
    some (0x54#8, 0x0102#16, 0x02#8, 12) := by decide
theorem test_bit_7_idx_ix_mirror_BT_7 :
    after (step { start (bank 0 0 0xFF 0 0 0 0 0) [(0x0100, 0xDD#8), (0x0101, 0xCB#8), (0x0102, 0x05#8),
      (0x0103, 0x78#8), (0xc005, 0x7F#8)] with
      ix := 0xC000#16 })
      (fun t => (t.main.f.toByte, t.pc, t.r, t.returned)) =
    some (0x54#8, 0x0104#16, 0x04#8, 20) := by decide
theorem test_set_3_l_BT_9 :
    after (step (start (bank 0 0 0 0 0 0 0 0) [(0x0100, 0xCB#8), (0x0101, 0xDD#8)]))
      (fun t => (t.main.hl, t.pc, t.r, t.returned)) =
    some (0x0008#16, 0x0102#16, 0x02#8, 8) := by decide
theorem test_set_0_idx_iy_b_BT_12 :
    after (step { start (bank 0 0 0xEE 0 0 0 0 0) [(0x0100, 0xFD#8), (0x0101, 0xCB#8), (0x0102, 0x02#8),
      (0x0103, 0xC0#8), (0xc002, 0x10#8)] with
      iy := 0xC000#16 })
      (fun t => (t.main.bc, t.peek 0xC002#16, t.pc, t.r, t.returned)) =
    some (0x1100#16, 0x11#8, 0x0104#16, 0x04#8, 23) := by decide
theorem test_res_7_a_BT_13 :
    after (step (start (bank 0xFF 0xD7 0 0 0 0 0 0) [(0x0100, 0xCB#8), (0x0101, 0xBF#8)]))
      (fun t => (t.main.a, t.pc, t.r, t.returned)) =
    some (0x7F#8, 0x0102#16, 0x02#8, 8) := by decide
theorem test_res_3_idx_ix_a_BT_16 :
    after (step { start (bank 0x55 0 0 0 0 0 0 0) [(0x0100, 0xDD#8), (0x0101, 0xCB#8), (0x0102, 0xFF#8),
      (0x0103, 0x9F#8), (0xc000, 0x0F#8)] with
      ix := 0xC001#16 })
      (fun t => (t.main.a, t.peek 0xC000#16, t.pc, t.r, t.returned)) =
    some (0x07#8, 0x07#8, 0x0104#16, 0x04#8, 23) := by decide
theorem test_jp_nn_JC_1 :
    after (step (start (bank 0 0 0 0 0 0 0 0) [(0x0100, 0xC3#8), (0x0102, 0x80#8)]))
      (fun t => (t.pc, t.r, t.returned)) =
    some (0x8000#16, 0x03#8, 10) := by decide
theorem test_jp_z_nn_JC_3 :
    after (step (start (bank 0 0 0 0 0 0 0 0) [(0x0100, 0xCA#8), (0x0102, 0x80#8)]))
      (fun t => (t.pc, t.r, t.returned)) =
    some (0x0103#16, 0x03#8, 10) := by decide
theorem test_jp_po_nn_JC_4 :
    after (step (start (bank 0 0 0 0 0 0 0 0) [(0x0100, 0xE2#8), (0x0102, 0x80#8)]))
      (fun t => (t.pc, t.r, t.returned)) =
    some (0x8000#16, 0x03#8, 10) := by decide
theorem test_jr_e_JC_6 :
    after (step (start (bank 0 0 0 0 0 0 0 0) [(0x0100, 0x18#8), (0x0101, 0x05#8)]))
      (fun t => (t.pc, t.r, t.returned)) =
    some (0x0107#16, 0x02#8, 12) := by decide
theorem test_jr_c_e_JC_9 :
    after (step (start (bank 0 0x01 0 0 0 0 0 0) [(0x0100, 0x38#8), (0x0101, 0x10#8)]))
      (fun t => (t.pc, t.r, t.returned)) =
    some (0x0112#16, 0x02#8, 12) := by decide
theorem test_jr_z_e_JC_12 :
    after (step (start (bank 0 0x40 0 0 0 0 0 0) [(0x0100, 0x28#8), (0x0101, 0x7F#8)]))
      (fun t => (t.pc, t.r, t.returned)) =
    some (0x0181#16, 0x02#8, 12) := by decide
theorem test_jp_ind_iy_JC_16 :
    after (step { start (bank 0 0 0 0 0 0 0 0) [(0x0100, 0xFD#8), (0x0101, 0xE9#8)] with
      iy := 0x6000#16 })
      (fun t => (t.pc, t.r, t.returned)) =
    some (0x6000#16, 0x02#8, 8) := by decide
theorem test_djnz_e_JC_17 :
    after (step (start (bank 0 0 0x02 0 0 0 0 0) [(0x0100, 0x10#8), (0x0101, 0xFE#8)]))
      (fun t => (t.main.bc, t.pc, t.r, t.returned)) =
    some (0x0100#16, 0x0100#16, 0x02#8, 13) := by decide
theorem test_djnz_e_JC_18 :
    after (step (start (bank 0 0 0x01 0 0 0 0 0) [(0x0100, 0x10#8), (0x0101, 0xFE#8)]))
      (fun t => (t.main.bc, t.pc, t.r, t.returned)) =
    some (0x0000#16, 0x0102#16, 0x02#8, 8) := by decide
theorem test_call_nn_JC_21 :
    after (step { start (bank 0 0 0 0 0 0 0 0) [(0x0100, 0xCD#8), (0x0101, 0x34#8), (0x0102, 0x12#8)] with
      sp := 0x0001#16 })
      (fun t => ((t.sp, t.peek 0x0000#16, t.peek 0xFFFF#16), (t.pc, t.r, t.returned))) =
    some ((0xFFFF#16, 0x01#8, 0x03#8), (0x1234#16, 0x03#8, 17)) := by decide
theorem test_call_nz_nn_JC_23 :
    after (step (start (bank 0 0x40 0 0 0 0 0 0) [(0x0100, 0xC4#8), (0x0102, 0x02#8)]))
      (fun t => (t.pc, t.r, t.returned)) =
    some (0x0103#16, 0x03#8, 10) := by decide
theorem test_call_pe_nn_JC_24 :
    after (step (start (bank 0 0x04 0 0 0 0 0 0) [(0x0100, 0xEC#8), (0x0102, 0x02#8)]))
      (fun t => ((t.sp, t.peek 0xFFEF#16, t.peek 0xFFEE#16), (t.pc, t.r, t.returned))) =
    some ((0xFFEE#16, 0x01#8, 0x03#8), (0x0200#16, 0x03#8, 17)) := by decide
theorem test_ret_JC_25 :
    after (step { start (bank 0 0 0 0 0 0 0 0) [(0x0100, 0xC9#8), (0xc000, 0x03#8), (0xc001, 0x01#8)] with
      sp := 0xC000#16 })
      (fun t => (t.sp, t.pc, t.r, t.returned)) =
    some (0xC002#16, 0x0103#16, 0x01#8, 10) := by decide
theorem test_ret_z_JC_27 :
    after (step { start (bank 0 0 0 0 0 0 0 0) [(0x0100, 0xC8#8), (0xc000, 0x03#8), (0xc001, 0x01#8)] with
      sp := 0xC000#16 })
      (fun t => (t.pc, t.r, t.returned)) =
    some (0x0101#16, 0x01#8, 5) := by decide
theorem test_ret_p_JC_28 :
    after (step { start (bank 0 0 0 0 0 0 0 0) [(0x0100, 0xF0#8), (0xc001, 0x90#8)] with
      sp := 0xC000#16 })
      (fun t => (t.sp, t.pc, t.r, t.returned)) =
    some (0xC002#16, 0x9000#16, 0x01#8, 11) := by decide
theorem test_reti_JC_29 :
    after (step { start (bank 0 0 0 0 0 0 0 0) [(0x0100, 0xED#8), (0x0101, 0x4D#8), (0xc000, 0x03#8),
      (0xc001, 0x01#8)] with
      sp := 0xC000#16, iff2 := true })
      (fun t => ((t.sp, t.iff1, t.iff2), (t.pc, t.r, t.returned))) =
    some ((0xC002#16, false, true), (0x0103#16, 0x02#8, 14)) := by decide
theorem test_retn_JC_30 :
    after (step { start (bank 0 0 0 0 0 0 0 0) [(0x0100, 0xED#8), (0x0101, 0x45#8), (0xc000, 0x03#8),
      (0xc001, 0x01#8)] with
      sp := 0xC000#16, iff2 := true })
      (fun t => (t.sp, t.iff1, t.pc, t.r, t.returned)) =
    some (0xC002#16, true, 0x0103#16, 0x02#8, 14) := by decide
theorem test_rst_00h_JC_33 :
    after (step { start (bank 0 0 0 0 0 0 0 0) [(0xffff, 0xC7#8)] with
      sp := 0xD000#16, pc := 0xFFFF#16 })
      (fun t => ((t.sp, t.peek 0xCFFF#16, t.peek 0xCFFE#16), (t.pc, t.r, t.returned))) =
    some ((0xCFFE#16, 0x00#8, 0x00#8), (0x0000#16, 0x01#8, 11)) := by decide
theorem test_in_a_ind_n_IO_1 :
    after (step { start (bank 0x12 0 0 0 0 0 0 0) [(0x0100, 0xDB#8), (0x0101, 0x7E#8)] with
      portIn := [0xB0#8] })
      (fun t => (t.main.a, t.pc, t.r, t.returned)) =
    some (0xB0#8, 0x0102#16, 0x02#8, 11) := by decide
theorem test_in_a_ind_c_IO_2 :
    after (step (start (bank 0 0x13 0 0xDC 0 0 0 0) [(0x0100, 0xED#8), (0x0101, 0x78#8)]))
      (fun t => (t.main.a, t.main.f.toByte, t.pc, t.r, t.returned)) =
    some (0xFF#8, 0x85#8, 0x0102#16, 0x02#8, 12) := by decide
theorem test_ini_IO_5 :
    after (step { start (bank 0 0 0x02 0xBE 0 0 0xC0 0) [(0x0100, 0xED#8), (0x0101, 0xA2#8)] with
      portIn := [0x80#8] })
      (fun t => ((t.main.f.toByte, t.main.bc, t.main.hl, t.peek 0xC000#16), (t.pc, t.r, t.returned))) =
    some ((0x17#8, 0x01BE#16, 0xC001#16, 0x80#8), (0x0102#16, 0x02#8, 16)) := by decide
theorem test_ind_IO_6 :
    after (step { start (bank 0 0 0x01 0 0 0 0xC0 0x05) [(0x0100, 0xED#8), (0x0101, 0xAA#8)] with
      portIn := [0x01#8] })
      (fun t => ((t.main.f.toByte, t.main.bc, t.main.hl, t.peek 0xC005#16), (t.pc, t.r, t.returned))) =
    some ((0x55#8, 0x0000#16, 0xC004#16, 0x01#8), (0x0102#16, 0x02#8, 16)) := by decide
theorem test_indr_IO_8 :
    after (step { start (bank 0 0 0x01 0xBE 0 0 0xC0 0) [(0x0100, 0xED#8), (0x0101, 0xBA#8)] with
      portIn := [0x00#8] })
      (fun t => ((t.main.f.toByte, t.main.bc, t.main.hl, t.peek 0xC000#16), (t.pc, t.r, t.returned))) =
    some ((0x44#8, 0x00BE#16, 0xBFFF#16, 0x00#8), (0x0102#16, 0x02#8, 16)) := by decide
theorem test_out_ind_n_a_IO_9 :
    after (step (start (bank 0x81 0 0 0 0 0 0 0) [(0x0100, 0xD3#8), (0x0101, 0xBF#8)]))
      (fun t => (t.bus.head?, t.pc, t.r, t.returned)) =
    some (some (.portWrite 0x81BF#16 0x81#8), 0x0102#16, 0x02#8, 11) := by decide
theorem test_out_ind_c_b_IO_11 :
    after (step (start (bank 0 0 0x10 0xBE 0 0 0 0) [(0x0100, 0xED#8), (0x0101, 0x41#8)]))
      (fun t => (t.bus.head?, t.pc, t.r, t.returned)) =
    some (some (.portWrite 0x10BE#16 0x10#8), 0x0102#16, 0x02#8, 12) := by decide
theorem test_outi_IO_13 :
    after (step (start (bank 0 0 0x03 0xBE 0 0 0xC0 0xFF) [(0x0100, 0xED#8), (0x0101, 0xA3#8), (0xc0ff,
      0x7F#8)]))
      (fun t => ((t.main.f.toByte, t.main.bc, t.main.hl, t.bus.head?), (t.pc, t.r, t.returned))) =
    some ((0x04#8, 0x02BE#16, 0xC100#16, some (.portWrite 0x02BE#16 0x7F#8)), (0x0102#16, 0x02#8,
      16)) := by decide
theorem test_outd_IO_14 :
    after (step (start (bank 0 0 0x01 0xBE 0 0 0xC0 0) [(0x0100, 0xED#8), (0x0101, 0xAB#8), (0xc000,
      0x80#8)]))
      (fun t => ((t.main.f.toByte, t.main.bc, t.main.hl, t.bus.head?), (t.pc, t.r, t.returned))) =
    some ((0x53#8, 0x00BE#16, 0xBFFF#16, some (.portWrite 0x00BE#16 0x80#8)), (0x0102#16, 0x02#8,
      16)) := by decide

/-! ### Signals, the EI delay, the refresh counter, the decode fault -/

theorem test_nmi_keeps_iff1_in_iff2_EX_8 :
    (let t := State.signalNmi { start (bank 0 0 0 0 0 0 0 0) [] with pc := 0x0101#16, iff1 := true, iff2 := true }
     (t.sp, t.iff1, t.iff2, t.pc, t.peek 0xFFEF#16, t.peek 0xFFEE#16)) =
      (0xFFEE#16, false, true, 0x0066#16, 0x01#8, 0x01#8) := by decide
theorem test_int_ignores_im_EX_12 :
    (let t := State.signalInt { start (bank 0 0 0 0 0 0 0 0) [] with
       pc := 0x0101#16, iff1 := true, iff2 := true, im := .im2, i := 0x40#8 }
     (t.sp, t.iff1, t.iff2, t.pc, t.peek 0xFFEF#16, t.peek 0xFFEE#16)) =
      (0xFFEE#16, false, false, 0x0038#16, 0x01#8, 0x01#8) := by decide
theorem test_int_then_nmi_in_one_gap_EX_14 :
    (let t := State.deliver { start (bank 0 0 0 0 0 0 0 0) [] with
       pc := 0x0101#16, iff1 := true, iff2 := true, signals := [[.int, .nmi]] }
     (t.sp, t.iff2, t.pc, t.peek 0xFFEF#16, t.peek 0xFFEE#16, t.peek 0xFFED#16, t.peek 0xFFEC#16)) =
      (0xFFEC#16, false, 0x0066#16, 0x01#8, 0x01#8, 0x00#8, 0x38#8) := by decide
theorem test_second_signal_vectors_EX_16 :
    (let t := State.deliver { start (bank 0 0 0 0 0 0 0 0) [] with
       iff1 := true, iff2 := true, haltSt := .waiting, signals := [[.int, .int]] }
     (t.sp, t.haltSt, t.pc, t.peek 0xFFEF#16, t.peek 0xFFEE#16)) =
      (0xFFEE#16, .satisfied, 0x0038#16, 0x01#8, 0x00#8) := by decide
theorem test_halt_is_woken_GM_21 :
    after (step { start (bank 0 0 0 0 0 0 0 0) [(0x100, 0x76#8)] with haltSt := .waiting, signals := [[.int]] })
      (fun t => (t.pc, t.haltSt, t.sp)) = some (0x0101#16, .none, 0xFFF0#16) := by decide
theorem test_ei_then_enabled_GM_25 :
    after (step { start (bank 0 0 0 0 0 0 0 0) [] with eiSt := .satisfied })
      (fun t => (t.iff1, t.iff2, t.eiSt)) = some (true, true, .none) := by decide
theorem test_refresh_by_length_RP_6 :
    after (step { start (bank 0 0 0 0 0 0 0 0) [(0x100, 0xED#8), (0x101, 0x43#8), (0x103, 0xC0#8)] with r := 0xFE#8 })
      (fun t => t.r) = some 0x82#8 := by decide
theorem test_refresh_by_m1_count_RP_6 :
    after (step { start (bank 0 0 0 0 0 0 0 0) [(0x100, 0xED#8), (0x101, 0x43#8), (0x103, 0xC0#8)] with
      r := 0xFE#8, cfg := { rPolicy := .m1Count } }) (fun t => t.r) = some 0x80#8 := by decide
theorem test_decode_fault_EX_6 :
    (match step { start (bank 0 0 0 0 0 0 0 0) [(0x100, 0xED#8)] with eiSt := .waiting } with
      | .fault (.decodeFault pc b0 b1 _ _ t) => some (pc, b0, b1, t.pc, t.r, t.eiSt)
      | .next _ => none
      | .refused _ => none) = some (0x0100#16, 0xED#8, 0x00#8, 0x0100#16, 0x00#8, .satisfied) := by decide
theorem test_look_ahead_wraps_JC_33 :
    after (step { start (bank 0 0 0 0 0 0 0 0) [(0xFFFF, 0xC7#8)] with pc := 0xFFFF#16 })
      (fun t => (t.bus.drop 2).map fun e => match e with
        | .memRead a _ => a.toNat
        | .memWrite _ _ => 0
        | .portRead _ _ => 0
        | .portWrite _ _ => 0) = some [2, 1, 0, 65535] := by decide
theorem test_core_is_this_machine : Sys2Proof.core.reset = State.reset := rfl

/-! ### Witnesses: states and operands that meet the hypotheses of the statements -/

/-- The bytes the next `step()` of `s` decodes. -/
def ahead (s : State) : Except Reject Instr :=
  decode (s.peek s.pc) (s.peek (s.pc + 1)) (s.peek (s.pc + 2)) (s.peek (s.pc + 3))

/-- The start state with bytes at PC. -/
def at0100 (bs : List Byte) : State := (start (bank 0 0 0 0 0 0 0 0) []).place 0x0100#16 bs

theorem next_of {r : Result} {P : State → Prop} (h : completes r = true) (hP : ∀ t, P t) :
    ∃ t, r = .next t ∧ P t :=
  let ⟨t, e⟩ := exists_next h
  ⟨t, e, hP t⟩

theorem witness_DecodeOfEncodeIsInstruction : ∃ i : Instr, i.WellFormed ∧ i = .ldPPIx .b .ixh :=
  ⟨_, by decide, rfl⟩

theorem witness_DecodedBytesAreEncoding :
    ∃ (b0 b1 b2 b3 : Byte) (i : Instr), decode b0 b1 b2 b3 = .ok i ∧ i = .setBIdxIx 0#3 0x05#8 :=
  ⟨0xDD#8, 0xCB#8, 0x05#8, 0xC6#8, _, by decide, rfl⟩

theorem witness_NoBytesMatchTwoRows : ∃ rows ∈ [mainRows, cbRows, edRows, ddRows, fdRows, ddcbRows, fdcbRows],
    rows ≠ [] := ⟨edRows, by simp, by decide⟩

/-- A gap with a signal before the step, under each refresh policy. -/
theorem witness_StepRunsDecodedInstruction (p : RPolicy) :
    ∃ (s u : State) (i : Instr), u = s.deliver.eiUpdate ∧ ahead u = .ok i ∧ s.signals = [[.nmi]] ∧
      s.cfg.rPolicy = p ∧ i = .nop := by
  refine ⟨{ at0100 [] with signals := [[.nmi]], cfg := { rPolicy := p } }, _, _, rfl, ?_, rfl, rfl, rfl⟩
  cases p <;> decide

theorem witness_DecodeFaultLeavesStateAsRead :
    ∃ (s u : State) (r : Reject), u = s.deliver.eiUpdate ∧ ahead u = .error r :=
  ⟨at0100 [0xED#8, 0x70#8], _, .undefinedEd 0x70#8, rfl, by decide⟩

/-- Both sides of the equivalence occur. -/
theorem witness_OnlyUndecodableBytesStop :
    (∃ s : State, s.SafeStep) ∧ ∃ s : State, completes (step s) = false :=
  ⟨⟨at0100 [], exists_next (by decide)⟩, at0100 [0xDD#8, 0x00#8], by decide⟩

/-- For each value of the latch, with EI, DI and another instruction. -/
theorem witness_EiDelayAdvancesPerStep :
    ∀ l : Latch, ∀ i ∈ [Instr.ei, .di, .nop], ∃ s t : State, s.signals.headD [] = [] ∧ ahead s = .ok i ∧
      step s = .next t ∧ s.eiSt = l := by
  intro l i hi
  simp only [List.mem_cons, List.not_mem_nil, or_false] at hi
  rcases hi with rfl | rfl | rfl
  · obtain ⟨t, h⟩ := exists_next (r := step { at0100 [0xFB#8] with eiSt := l }) (by cases l <;> decide)
    exact ⟨_, t, rfl, by cases l <;> decide, h, rfl⟩
  · obtain ⟨t, h⟩ := exists_next (r := step { at0100 [0xF3#8] with eiSt := l }) (by cases l <;> decide)
    exact ⟨_, t, rfl, by cases l <;> decide, h, rfl⟩
  · obtain ⟨t, h⟩ := exists_next (r := step { at0100 [] with eiSt := l }) (by cases l <;> decide)
    exact ⟨_, t, rfl, by cases l <;> decide, h, rfl⟩

/-- Under each policy, R about to wrap, with LD R,A and with another instruction. -/
theorem witness_RefreshCounterAdvance (p : RPolicy) :
    (∃ s t : State, ahead s.deliver.eiUpdate = .ok .ldRA ∧ step s = .next t ∧ s.cfg.rPolicy = p) ∧
    (∃ s t : State, ahead s.deliver.eiUpdate = .ok .neg ∧ step s = .next t ∧ s.cfg.rPolicy = p ∧ s.r = 0xFF#8) := by
  constructor
  · obtain ⟨t, h⟩ := exists_next
      (r := step { at0100 [0xED#8, 0x4F#8] with cfg := { rPolicy := p } }) (by cases p <;> decide)
    exact ⟨_, t, by cases p <;> decide, h, rfl⟩
  · obtain ⟨t, h⟩ := exists_next
      (r := step { at0100 [0xED#8, 0x44#8] with cfg := { rPolicy := p }, r := 0xFF#8 }) (by cases p <;> decide)
    exact ⟨_, t, by cases p <;> decide, h, rfl, rfl⟩

theorem witness_RefreshCounterAdvance_fault :
    ∃ (s : State) (pc : Word) (b0 b1 b2 b3 : Byte) (t : State), step s = .fault (.decodeFault pc b0 b1 b2 b3 t) :=
  ⟨at0100 [0xED#8, 0x70#8], _, _, _, _, _, _, rfl⟩

/-- NOP meets every clause's premise at once; RETI meets its own with the copy turned off. -/
theorem witness_SpecialRegisterWriters :
    (∃ s t : State, exec .nop s = .next t) ∧
      ∃ s t : State, exec .reti s = .next t ∧ s.cfg.retiCopiesIff2 = false :=
  ⟨⟨State.reset, exists_next (by decide)⟩, next_of (r := exec .reti State.reset) (by decide) (fun _ => rfl) |>
    fun ⟨t, h, e⟩ => ⟨State.reset, t, h, e⟩⟩

/-- Outside the repeating forms; HALT in each state of its latch; a block form that repeats and one that
ends. -/
theorem witness_PcAdvancesByLength :
    ∀ p ∈ [(Instr.nop, Latch.none, 0#8), (.halt, .none, 0#8), (.halt, .satisfied, 0#8), (.ldir, .none, 2#8),
        (.ldir, .none, 1#8)],
      ∃ s t : State, exec p.1 s = .next t ∧ p.1.group ≠ .jump ∧ p.1.group ≠ .callReturn ∧ s.haltSt = p.2.1 ∧
        s.main.c = p.2.2 := by
  intro p hp
  simp only [List.mem_cons, List.not_mem_nil, or_false] at hp
  obtain ⟨t, h⟩ := exists_next (r := exec p.1 { State.reset with
    haltSt := p.2.1, main := { State.reset.main with c := p.2.2 } })
    (by rcases hp with rfl | rfl | rfl | rfl | rfl <;> decide)
  refine ⟨_, t, h, ?_, ?_, rfl, rfl⟩ <;> rcases hp with rfl | rfl | rfl | rfl | rfl <;> decide

theorem witness_InterruptModeIsNeverRead : ∃ s t : State, step s = .next t ∧ s.im = .im2 ∧ s.iff1 = true :=
  next_of (r := step { at0100 [] with im := .im2, iff1 := true, signals := [[.int]] }) (by decide)
    (fun _ => ⟨rfl, rfl⟩) |> fun ⟨t, h, e⟩ => ⟨_, t, h, e⟩

theorem witness_UnusedFlagBitsAreNotRead :
    ∃ (i : Instr) (s t : State), i ≠ .pushQq .af ∧ i ≠ .exAfAf ∧ exec i s = .next t ∧ s.main.f.y = true :=
  next_of (r := exec .daa State.reset) (by decide) (fun _ => rfl) |>
    fun ⟨t, h, e⟩ => ⟨.daa, State.reset, t, by decide, by decide, h, e⟩

theorem witness_OnlyIoInstructionsTouchPorts :
    ∃ (i : Instr) (s t : State), exec i s = .next t ∧ i.group ≠ .inputOutput :=
  next_of (r := exec (.pushQq .bc) State.reset) (by decide) (fun _ => trivial) |>
    fun ⟨t, h, _⟩ => ⟨.pushQq .bc, State.reset, t, h, by decide⟩

/-- A step that stores, after a gap that stores. -/
theorem witness_MemoryIsWhatTheBusWrote : ∃ s t : State, step s = .next t ∧ s.signals = [[.nmi]] :=
  next_of (r := step { (at0100 []).place 0x0066#16 [0xC5#8] with signals := [[.nmi]] }) (by decide)
    (fun _ => rfl) |> fun ⟨t, h, e⟩ => ⟨_, t, h, e⟩

/-- A waiting engine with interrupts enabled, and one that runs. -/
theorem witness_StepKeepsInvariant :
    (∃ s t : State, s.Inv ∧ step s = .next t ∧ s.haltSt = .waiting ∧ s.iff1 = true) ∧
      ∃ s t : State, s.Inv ∧ step s = .next t ∧ s.haltSt = .none := by
  constructor
  · obtain ⟨t, h⟩ := exists_next
      (r := step { at0100 [0x76#8] with haltSt := .waiting, iff1 := true, iff2 := true }) (by decide)
    exact ⟨_, t, ⟨by decide, by decide, by decide⟩, h, rfl, rfl⟩
  · obtain ⟨t, h⟩ := exists_next (r := step State.reset) (by decide)
    exact ⟨_, t, ⟨by decide, by decide, by decide⟩, h, rfl⟩

/-- The three cases of the signals and of HALT: every value of the latch with either value of IFF1. -/
theorem witness_signals_and_halt (l : Latch) (b : Bool) : ∃ s : State, s.haltSt = l ∧ s.iff1 = b :=
  ⟨{ State.reset with haltSt := l, iff1 := b }, rfl, rfl⟩

theorem witness_HaltWaitsAndIsReleased_others :
    ∃ (s : State) (i : Instr) (t : State), exec i s = .next t ∧ i ≠ .halt ∧ s.haltSt = .satisfied :=
  next_of (r := exec .ei { State.reset with haltSt := .satisfied }) (by decide) (fun _ => rfl) |>
    fun ⟨t, h, e⟩ => ⟨_, .ei, t, h, by decide, e⟩

theorem witness_WaitingEngineIdles :
    ∃ s : State, s.Inv ∧ s.haltSt = .waiting ∧ s.signals.headD [] = [] ∧ s.signals ≠ [] :=
  ⟨{ at0100 [0x76#8] with haltSt := .waiting, signals := [[], [.nmi]] },
    ⟨by decide, by decide, by decide⟩, rfl, rfl, by decide⟩

theorem witness_EqualReadsEqualMemory :
    ∃ m n : Memory, m.wf ∧ n.wf ∧ (∀ a : Word, m.read a.toNat = n.read a.toNat) ∧ m ≠ [] :=
  ⟨[(0xFFFF, 0x01#8)], [(0xFFFF, 0x01#8)], by decide, by decide, fun _ => rfl, by decide⟩

/-- The largest and the smallest operands. -/
theorem witness_DaaCorrectsDecimalSums :
    (∃ (s : State) (x y : Nat), x < 100 ∧ y < 100 ∧ s.main.a = bcd x ∧ x = 99 ∧ y = 99) ∧
      ∃ (s : State) (x y : Nat), x < 100 ∧ y < 100 ∧ s.main.a = bcd x ∧ x = 0 ∧ y = 0 :=
  ⟨⟨start (bank 0x99 0 0 0 0 0 0 0) [], 99, 99, by decide, by decide, by decide, rfl, rfl⟩,
    start (bank 0 0 0 0 0 0 0 0) [], 0, 0, by decide, by decide, by decide, rfl, rfl⟩

/-- The shortest block and the longest that can stand apart. -/
theorem witness_LdirCopiesBlock : ∀ n ∈ [1, 32768], ∃ s : State, s.main.bc.toNat = n ∧ 1 ≤ n ∧
    ∀ j k, j < n → k < n → s.main.de + BitVec.ofNat 16 j ≠ s.main.hl + BitVec.ofNat 16 k := by
  intro n hn
  refine ⟨(start (bank 0 0 0 0 0x80 0 0 0) []).setBc (BitVec.ofNat 16 n), ?_, ?_, ?_⟩
  · fin_cases hn <;> decide
  · fin_cases hn <;> decide
  · intro j k hj hk h
    have hd : ((start (bank 0 0 0 0 0x80 0 0 0) []).setBc (BitVec.ofNat 16 n)).main.de = 0x8000#16 := by
      fin_cases hn <;> decide
    have hl : ((start (bank 0 0 0 0 0x80 0 0 0) []).setBc (BitVec.ofNat 16 n)).main.hl = 0x0000#16 := by
      fin_cases hn <;> decide
    rw [hd, hl] at h
    have := congrArg BitVec.toNat h
    simp only [BitVec.toNat_add, BitVec.toNat_ofNat] at this
    have : n ≤ 32768 := by fin_cases hn <;> decide
    omega

/-- Every condition holds somewhere and fails somewhere: the clauses of JP cc, CALL cc, RET cc. -/
theorem witness_conditions (cc : Cond) : (∃ s : State, s.cond cc = true) ∧ ∃ s : State, s.cond cc = false := by
  cases cc
  all_goals
    first
      | exact ⟨⟨start (bank 0 0 0 0 0 0 0 0) [], by decide⟩, start (bank 0 0xFF 0 0 0 0 0 0) [], by decide⟩
      | exact ⟨⟨start (bank 0 0xFF 0 0 0 0 0 0) [], by decide⟩, start (bank 0 0 0 0 0 0 0 0) [], by decide⟩

/-- JR on the carry and zero flags, and DJNZ and the block input and output forms where B becomes 0 and
where it does not, B = 0 before among the latter. -/
theorem witness_JumpForms_BlockInputOutputForms :
    (∃ s : State, s.main.f.c = true ∧ s.main.f.z = true ∧ s.main.b - 1 = 0) ∧
    (∃ s : State, s.main.f.c = false ∧ s.main.f.z = false ∧ s.main.b - 1 ≠ 0 ∧ s.main.b = 0) :=
  ⟨⟨start (bank 0 0x41 1 0 0 0 0 0) [], by decide⟩, start (bank 0 0 0 0 0 0 0 0) [], by decide⟩

theorem witness_CallReturnForms_reti (b : Bool) : ∃ s : State, s.cfg.retiCopiesIff2 = b :=
  ⟨{ State.reset with cfg := { retiCopiesIff2 := b } }, rfl⟩

/-- With the stack across the wrap of the address space. -/
theorem witness_ReturnUndoesCall :
    ∃ (s t u : State) (nn : Word), exec (.callNn nn) s = .next t ∧ u.sp = t.sp ∧ u.mem = t.mem ∧ s.sp = 0x0001#16 :=
  next_of (r := exec (.callNn 0x1234#16) { State.reset with sp := 0x0001#16 }) (by decide) (fun _ => rfl) |>
    fun ⟨t, h, e⟩ => ⟨_, t, t, _, h, rfl, rfl, e⟩

/-- The rule of DAA names its low digit, correction and result for every state: here where all of it
applies. -/
theorem witness_AccumulatorAndCarryForms :
    ∃ (s : State) (low corr : Nat) (res : Byte), low = s.main.a.toNat % 16 ∧
      corr = (if s.main.f.h = true ∨ low > 9 then 6 else 0) +
        (if s.main.f.c = true ∨ s.main.a.toNat > 0x99 then 0x60 else 0) ∧
      res = (if s.main.f.n = true then s.main.a - BitVec.ofNat 8 corr else s.main.a + BitVec.ofNat 8 corr) ∧
      corr = 0x66 := ⟨start (bank 0x9A 0 0 0 0 0 0 0) [], _, _, _, rfl, rfl, rfl, by decide⟩

end Sys2Proof.Machine.Tests
end

section
/-! PROOFS. The state's operations once more: those that branch as one update each, and what each operation
leaves of memory, PC and the special registers. -/

namespace Sys2Proof.Machine

/-- What instructions other than those that name it do not write: the shadow set, I, R, the interrupt
state, the latches, the parameters and the coming signal calls (R11, R18 to R21, R29, R30, R5). -/
structure Specials where
  alt : Bank
  i : Byte
  r : Byte
  iff1 : Bool
  iff2 : Bool
  im : IntMode
  haltSt : Latch
  eiSt : Latch
  cfg : Config
  signals : List (List Signal)

/-- The special registers of a state. -/
def State.specials (s : State) : Specials where
  alt := s.alt
  i := s.i
  r := s.r
  iff1 := s.iff1
  iff2 := s.iff2
  im := s.im
  haltSt := s.haltSt
  eiSt := s.eiSt
  cfg := s.cfg
  signals := s.signals

namespace State

variable (s : State)

/-! ### Operations that branch -/

theorem jumpRelIf_eq (b : Bool) (e : Byte) (m n : Nat) :
    s.jumpRelIf b e m n = { s with
      pc := if b then s.relTarget e else s.pc + 2#16, returned := if b then m else n } := by
  cases b <;> rfl

theorem repeatIf_eq (again : Bool) :
    s.repeatIf again = { s with
      pc := if again then s.pc else s.pc + 2#16, returned := if again then 21 else 16 } := by
  cases again <;> rfl

theorem blockIoRepeat_eq (f : Flags) :
    s.blockIoRepeat f = { s with
      main := { s.main with
        f := if s.main.b = 0 then withAnyXY f s.nextDraw else withAnyXYHPv f s.nextDraw }
      anyIn := s.anyIn.tail, draws := s.draws + 1
      pc := if s.main.b = 0 then s.pc + 2#16 else s.pc
      returned := if s.main.b = 0 then 16 else 21 } := by
  obtain ⟨hb, e⟩ | ⟨hb, e⟩ := s.blockIoRepeat_cases f
  · rw [e, if_neg hb, if_neg hb, if_neg hb]; rfl
  · rw [e, if_pos hb, if_pos hb, if_pos hb]; rfl

theorem reti_eq (n : Nat) :
    s.reti n = { s.ret n with iff1 := if s.cfg.retiCopiesIff2 then s.iff2 else s.iff1 } := by
  obtain ⟨hc, e⟩ | ⟨hc, e⟩ := s.reti_cases n
  · rw [e, if_pos hc]
  · rw [e, if_neg (by simp [hc])]; rfl

/-! ### Memory after the compound operations -/

@[simp] theorem acc_mem (op : AccOp) (v : Byte) : (s.acc op v).mem = s.mem := by rw [acc_eq]
@[simp] theorem addHl_mem (v : Word) : (s.addHl v).mem = s.mem := by rw [addHl_eq]
@[simp] theorem incMem_mem (a : Word) :
    (s.incMem a).mem = s.mem.write a.toNat (inc8 (s.peek a) s.main.f).1 := by rw [incMem_eq]
@[simp] theorem decMem_mem (a : Word) :
    (s.decMem a).mem = s.mem.write a.toNat (dec8 (s.peek a) s.main.f).1 := by rw [decMem_eq]
@[simp] theorem blockTransfer_mem (k : Word) :
    (s.blockTransfer k).mem = s.mem.write s.main.de.toNat (s.peek s.main.hl) := by rw [blockTransfer_eq]
@[simp] theorem blockSearch_mem (k : Word) : (s.blockSearch k).mem = s.mem := by rw [blockSearch_eq]
@[simp] theorem call_mem (len : Nat) (t : Word) (n : Nat) :
    (s.call len t n).mem = (s.push16 (s.npc len)).mem := rfl
@[simp] theorem jumpRelIf_mem (b : Bool) (e : Byte) (m n : Nat) : (s.jumpRelIf b e m n).mem = s.mem := by
  rw [jumpRelIf_eq]
@[simp] theorem repeatIf_mem (again : Bool) : (s.repeatIf again).mem = s.mem := by rw [repeatIf_eq]
@[simp] theorem blockIoRepeat_mem (f : Flags) : (s.blockIoRepeat f).mem = s.mem := by rw [blockIoRepeat_eq]
@[simp] theorem retn_mem (n : Nat) : (s.retn n).mem = s.mem := rfl
@[simp] theorem reti_mem (n : Nat) : (s.reti n).mem = s.mem := by rw [reti_eq, ret_mem]

/-! ### PC after the compound operations -/

@[simp] theorem acc_pc (op : AccOp) (v : Byte) : (s.acc op v).pc = s.pc := by rw [acc_eq]
@[simp] theorem addHl_pc (v : Word) : (s.addHl v).pc = s.pc := by rw [addHl_eq]
@[simp] theorem incMem_pc (a : Word) : (s.incMem a).pc = s.pc := by rw [incMem_eq]
@[simp] theorem decMem_pc (a : Word) : (s.decMem a).pc = s.pc := by rw [decMem_eq]
@[simp] theorem blockTransfer_pc (k : Word) : (s.blockTransfer k).pc = s.pc := by rw [blockTransfer_eq]
@[simp] theorem blockSearch_pc (k : Word) : (s.blockSearch k).pc = s.pc := by rw [blockSearch_eq]
@[simp] theorem repeatIf_pc (again : Bool) :
    (s.repeatIf again).pc = if again then s.pc else s.pc + 2#16 := by rw [repeatIf_eq]
@[simp] theorem blockIoRepeat_pc (f : Flags) :
    (s.blockIoRepeat f).pc = if s.main.b = 0 then s.pc + 2#16 else s.pc := by rw [blockIoRepeat_eq]

/-! ### The special registers after every operation

The proofs go through the fields. By `rfl` the two states would be compared whole. -/

@[simp] theorem specials_record (e : BusAccess) : (s.record e).specials = s.specials := by simp [specials]
@[simp] theorem specials_setA (v : Byte) : (s.setA v).specials = s.specials := by simp [specials]
@[simp] theorem specials_setB (v : Byte) : (s.setB v).specials = s.specials := by simp [specials]
@[simp] theorem specials_setDe (v : Word) : (s.setDe v).specials = s.specials := by simp [specials]
@[simp] theorem specials_setHl (v : Word) : (s.setHl v).specials = s.specials := by simp [specials]
@[simp] theorem specials_setIx (v : Word) : (s.setIx v).specials = s.specials := by simp [specials]
@[simp] theorem specials_setIy (v : Word) : (s.setIy v).specials = s.specials := by simp [specials]
@[simp] theorem specials_setSp (v : Word) : (s.setSp v).specials = s.specials := by simp [specials]
@[simp] theorem specials_setIxh (v : Byte) : (s.setIxh v).specials = s.specials := by simp [specials]
@[simp] theorem specials_setIxl (v : Byte) : (s.setIxl v).specials = s.specials := by simp [specials]
@[simp] theorem specials_setIyh (v : Byte) : (s.setIyh v).specials = s.specials := by simp [specials]
@[simp] theorem specials_setIyl (v : Byte) : (s.setIyl v).specials = s.specials := by simp [specials]
@[simp] theorem specials_setR8 (r : Reg8) (v : Byte) : (s.setR8 r v).specials = s.specials := by simp [specials]
@[simp] theorem specials_setP8 (r : RegP) (v : Byte) : (s.setP8 r v).specials = s.specials := by simp [specials]
@[simp] theorem specials_setQ8 (r : RegQ) (v : Byte) : (s.setQ8 r v).specials = s.specials := by simp [specials]
@[simp] theorem specials_setDd (p : PairDd) (v : Word) : (s.setDd p v).specials = s.specials := by simp [specials]
@[simp] theorem specials_setQq (p : PairQq) (v : Word) : (s.setQq p v).specials = s.specials := by simp [specials]
@[simp] theorem specials_memWrite (a : Word) (v : Byte) : (s.memWrite a v).specials = s.specials := by
  simp [specials]
@[simp] theorem specials_memWrite16 (a v : Word) : (s.memWrite16 a v).specials = s.specials := by simp [specials]
@[simp] theorem specials_push16 (v : Word) : (s.push16 v).specials = s.specials := by simp [specials]
@[simp] theorem specials_portWrite (p : Word) (v : Byte) : (s.portWrite p v).specials = s.specials := by
  simp [specials]
/-- A port read, its pair taken apart. -/
@[simp] theorem specials_answered (ps : List Byte) (es : List BusAccess) (n : Nat) :
    { s with portIn := ps, bus := es, draws := n }.specials = s.specials := by simp [specials]
@[simp] theorem specials_putFlags (f : Flags) : (s.putFlags f).specials = s.specials := by simp [specials]
@[simp] theorem specials_jump (t : Word) (n : Nat) : (s.jump t n).specials = s.specials := by simp [specials]
@[simp] theorem specials_finish (len n : Nat) : (s.finish len n).specials = s.specials := by simp [specials]
@[simp] theorem specials_ret (n : Nat) : (s.ret n).specials = s.specials := by simp [specials]
@[simp] theorem specials_acc (op : AccOp) (v : Byte) : (s.acc op v).specials = s.specials := by
  simp [specials, acc_eq]
@[simp] theorem specials_addHl (v : Word) : (s.addHl v).specials = s.specials := by simp [specials, addHl_eq]
@[simp] theorem specials_incMem (a : Word) : (s.incMem a).specials = s.specials := by simp [specials, incMem_eq]
@[simp] theorem specials_decMem (a : Word) : (s.decMem a).specials = s.specials := by simp [specials, decMem_eq]
@[simp] theorem specials_blockTransfer (k : Word) : (s.blockTransfer k).specials = s.specials := by
  simp [specials, blockTransfer_eq]
@[simp] theorem specials_blockSearch (k : Word) : (s.blockSearch k).specials = s.specials := by
  simp [specials, blockSearch_eq]
@[simp] theorem specials_call (len : Nat) (t : Word) (n : Nat) : (s.call len t n).specials = s.specials := by
  simp [specials, call_eq]
@[simp] theorem specials_jumpRelIf (b : Bool) (e : Byte) (m n : Nat) :
    (s.jumpRelIf b e m n).specials = s.specials := by simp [specials, jumpRelIf_eq]
@[simp] theorem specials_repeatIf (again : Bool) : (s.repeatIf again).specials = s.specials := by
  simp [specials, repeatIf_eq]
@[simp] theorem specials_blockIoRepeat (f : Flags) : (s.blockIoRepeat f).specials = s.specials := by
  simp [specials, blockIoRepeat_eq]

end State

end Sys2Proof.Machine
end

section
/-! PROOFS. What one instruction can do: it completes, it touches memory by writes alone, it leaves the
special registers but where it names them, and it moves PC past itself. -/

namespace Sys2Proof.Machine

open State

/-- The contents that writes inside the address space can make of `m`. -/
inductive Memory.Written (m : Memory) : Memory → Prop
  | none : Written m m
  | write {n : Memory} (a : Word) (v : Byte) : Written m n → Written m (n.write a.toNat v)

/-- Writes keep the canonical form (log 2). -/
theorem Memory.Written.wf {m n : Memory} (h : m.Written n) (hm : m.wf) : n.wf := by
  induction h with
  | none => exact hm
  | write a v _ ih => exact Memory.write_wf v ih a.isLt

/-- The instructions that write a special register. -/
def specialWriters : List Instr :=
  [.halt, .ldIA, .ldRA, .exAfAf, .exx, .di, .ei, .im0, .im1, .im2, .reti, .retn]

/-- HALT goes on where a signal released it, and else waits at its own address (R217). -/
theorem exec_halt_cases (s : State) :
    (s.haltSt = .satisfied ∧ exec .halt s = .next (finish { s with haltSt := .none } 1 4)) ∨
      (s.haltSt ≠ .satisfied ∧ exec .halt s = .next (hold { s with haltSt := .waiting } 4)) := by
  by_cases h : s.haltSt = .satisfied
  · exact .inl ⟨h, if_pos h⟩
  · exact .inr ⟨h, if_neg h⟩

/-- No instruction faults or is refused: a decode fault belongs to the step driver (R343). -/
theorem exec_completes (i : Instr) (s : State) : ∃ t, exec i s = .next t := by
  cases i
  case halt =>
    obtain ⟨-, e⟩ | ⟨-, e⟩ := exec_halt_cases s
    · exact ⟨_, e⟩
    · exact ⟨_, e⟩
  all_goals exact ⟨_, rfl⟩

/-- An instruction that names no special register leaves them all. -/
theorem exec_specials {i : Instr} {s t : State} (h : exec i s = .next t) (hi : i ∉ specialWriters) :
    t.specials = s.specials := by
  cases i
  case halt | ldIA | ldRA | exAfAf | exx | di | ei | im0 | im1 | im2 | reti | retn =>
    exact absurd (by decide) hi
  case jpCcNn | callCcNn | retCc => cases h; split <;> simp
  all_goals cases h; simp

/-- An instruction changes memory through `MemWrite` alone (R52). -/
theorem exec_written {i : Instr} {s t : State} (h : exec i s = .next t) : s.mem.Written t.mem := by
  cases i
  case halt =>
    obtain ⟨-, e⟩ | ⟨-, e⟩ := exec_halt_cases s <;> cases h.symm.trans e <;> exact .none
  case jpCcNn | callCcNn | retCc =>
    cases h
    split <;> simp [Memory.Written.none, Memory.Written.write, -BitVec.toNat_sub]
  all_goals
    cases h
    simp [Memory.Written.none, Memory.Written.write, -BitVec.toNat_add, -BitVec.toNat_sub]

/-- The end of every instruction that neither jumps, waits nor repeats: PC past its own bytes (R15, R80). -/
theorem exec_pc {i : Instr} {s t : State} (h : exec i s = .next t) (hj : i.group ≠ .jump)
    (hc : i.group ≠ .callReturn) (hh : i ≠ .halt) (hr : ¬ Claim.repeats i) :
    t.pc = s.pc + BitVec.ofNat 16 i.length := by
  cases i
  case halt => exact absurd rfl hh
  case jpNn | jpCcNn | jrE | jrCE | jrNcE | jrZE | jrNzE | jpHl | djnzE | jpIx | jpIy => exact absurd rfl hj
  case callNn | callCcNn | ret | retCc | reti | retn | rstP => exact absurd rfl hc
  case ldir | lddr | cpir | cpdr | inir | indr | otir | otdr => simp [Claim.repeats] at hr
  all_goals
    cases h
    simp [Instr.length, encode]

/-- HALT stays at its own address or moves past its one byte (R217). -/
theorem exec_halt_pc {s t : State} (h : exec .halt s = .next t) :
    t.pc = s.pc ∨ t.pc = s.pc + BitVec.ofNat 16 (Instr.length .halt) := by
  obtain ⟨-, e⟩ | ⟨-, e⟩ := exec_halt_cases s <;> cases h.symm.trans e
  · exact .inr rfl
  · exact .inl rfl

/-- A repeating block instruction stays at its own address or moves past its two bytes (R197, R356). -/
theorem exec_repeats_pc {i : Instr} {s t : State} (h : exec i s = .next t) (hr : Claim.repeats i) :
    t.pc = s.pc ∨ t.pc = s.pc + BitVec.ofNat 16 i.length := by
  rcases hr with rfl | rfl | rfl | rfl | rfl | rfl | rfl | rfl
  all_goals
    cases h
    simp only [repeatIf_pc, blockIoRepeat_pc]
    split <;> simp [Instr.length, encode]

/-- Settles O13: `exec_pc`, and the two outcomes of HALT and of the repeating forms. -/
theorem pcAdvancesByLength : Obligations.PcAdvancesByLength := by
  unfold Obligations.PcAdvancesByLength
  intro i s t h hj hc
  refine ⟨exec_pc h hj hc, ?_⟩
  rintro (rfl | hr)
  · exact exec_halt_pc h
  · exact exec_repeats_pc h hr

/-- Settles O12: the writers one by one, and for every other instruction `exec_specials`. -/
theorem specialRegisterWriters : Obligations.SpecialRegisterWriters := by
  unfold Obligations.SpecialRegisterWriters
  intro i s t h
  by_cases hi : i ∈ specialWriters
  · simp only [specialWriters, List.mem_cons, List.not_mem_nil, or_false] at hi
    rcases hi with rfl | rfl | rfl | rfl | rfl | rfl | rfl | rfl | rfl | rfl | rfl | rfl
    · obtain ⟨-, e⟩ | ⟨-, e⟩ := exec_halt_cases s <;> cases h.symm.trans e <;> simp
    all_goals
      cases h
      simp +contextual [reti_eq, retn_eq]
  · have hs := exec_specials h hi
    simp only [specials, Specials.mk.injEq] at hs
    obtain ⟨hshadow, hireg, hr, h1, h2, him, hh, he, hcfg, hsig⟩ := hs
    exact ⟨fun _ => hireg, fun _ => hr, fun _ _ _ => him, fun _ _ _ => h1, fun _ => h2, fun _ _ => he,
      fun _ => hh, fun _ _ => hshadow, hcfg, hsig⟩

end Sys2Proof.Machine
end

section
/-! PROOFS. HALT's row is the one row that gives HALT (R90, R217). -/

namespace Sys2Proof

open Machine

/-- What the decoder picks was built by a row whose pattern the opcode byte has. -/
theorem pick_eq_some {rows : List Row} {op b1 b2 b3 : Byte} {i : Instr}
    (h : pick rows op b1 b2 b3 = some i) :
    ∃ r ∈ rows, op &&& r.mask = r.pat ∧ r.build op b1 b2 b3 = some i := by
  induction rows with
  | nil => cases h
  | cons r rs ih =>
    unfold pick at h
    split at h
    next j hj =>
      unfold Row.takes at hj
      split at hj
      next hm => exact ⟨r, List.mem_cons_self, hm, hj.trans h⟩
      next => cases hj
    next =>
      obtain ⟨q, hq, hm⟩ := ih h
      exact ⟨q, List.mem_cons_of_mem r hq, hm⟩

/-- Rows none of which builds HALT. -/
def NoHalt (rows : List Row) : Prop := ∀ r ∈ rows, ∀ op b1 b2 b3, r.build op b1 b2 b3 ≠ some .halt

theorem noHalt_cbRows : NoHalt cbRows := by
  simp only [NoHalt, cbRows, List.forall_mem_cons]
  simp [Option.bind_eq_some_iff]

theorem noHalt_edRows : NoHalt edRows := by
  simp only [NoHalt, edRows, edRows1, edRows2, List.forall_mem_append, List.forall_mem_cons]
  simp [Option.bind_eq_some_iff]

theorem noHalt_ddRows : NoHalt ddRows := by
  simp only [NoHalt, ddRows, ddRows1, ddRows2, List.forall_mem_append, List.forall_mem_cons]
  simp [Option.bind_eq_some_iff, halfPairIx]

theorem noHalt_fdRows : NoHalt fdRows := by
  simp only [NoHalt, fdRows, fdRows1, fdRows2, List.forall_mem_append, List.forall_mem_cons]
  simp [Option.bind_eq_some_iff, halfPairIy]

theorem noHalt_ddcbRows : NoHalt ddcbRows := by
  simp only [NoHalt, ddcbRows, List.forall_mem_cons]
  simp [Option.bind_eq_some_iff]

theorem noHalt_fdcbRows : NoHalt fdcbRows := by
  simp only [NoHalt, fdcbRows, List.forall_mem_cons]
  simp [Option.bind_eq_some_iff]

/-- In the main space HALT's row has the full mask and the pattern 76. -/
theorem mainRows_build_halt : ∀ r ∈ mainRows, ∀ op b1 b2 b3, r.build op b1 b2 b3 = some .halt →
    r.mask = 0xFF#8 ∧ r.pat = 0x76#8 := by
  simp only [mainRows, mainRows1, mainRows2, mainRows3, mainRows4, List.forall_mem_append,
    List.forall_mem_cons]
  simp [Option.bind_eq_some_iff]

theorem NoHalt.pick_ne {rows : List Row} (h : NoHalt rows) (op b1 b2 b3 : Byte) :
    pick rows op b1 b2 b3 ≠ some .halt := fun e =>
  let ⟨r, hr, _, hb⟩ := pick_eq_some e
  h r hr op b1 b2 b3 hb

/-- The byte 76 is HALT, whatever follows it (R90). -/
theorem decode_76 (b1 b2 b3 : Byte) : decode 0x76#8 b1 b2 b3 = .ok .halt := by
  simp [decode, space, mainRows, mainRows1, mainRows2, pick, Row.takes, Reg8.ofCode, bits53, bits20]

theorem decode_ok {b0 b1 b2 b3 : Byte} {i : Instr} (h : decode b0 b1 b2 b3 = .ok i) :
    pick (space b0 b1 b3).1 (space b0 b1 b3).2.1 b1 b2 b3 = some i := by
  unfold decode at h
  split at h
  next rows op rej e =>
    split at h
    next j hj =>
      rw [e]
      exact hj.trans (congrArg some (Except.ok.inj h))
    next => cases h

/-- What decodes to HALT begins with the byte 76 (R217). -/
theorem decode_halt {b0 b1 b2 b3 : Byte} (h : decode b0 b1 b2 b3 = .ok .halt) : b0 = 0x76#8 := by
  have hp := decode_ok h
  unfold space at hp
  split at hp
  · exact absurd hp (noHalt_cbRows.pick_ne _ _ _ _)
  split at hp
  · exact absurd hp (noHalt_edRows.pick_ne _ _ _ _)
  split at hp
  · split at hp
    · exact absurd hp (noHalt_ddcbRows.pick_ne _ _ _ _)
    · exact absurd hp (noHalt_ddRows.pick_ne _ _ _ _)
  split at hp
  · split at hp
    · exact absurd hp (noHalt_fdcbRows.pick_ne _ _ _ _)
    · exact absurd hp (noHalt_fdRows.pick_ne _ _ _ _)
  obtain ⟨r, hr, hm, hb⟩ := pick_eq_some hp
  obtain ⟨hmask, hpat⟩ := mainRows_build_halt r hr _ _ _ _ hb
  rwa [hmask, hpat, show 0xFF#8 = BitVec.allOnes 8 from rfl, BitVec.and_allOnes] at hm

/-- The next instruction is HALT exactly where the byte at PC is 76. -/
theorem eq_halt_iff {b0 b1 b2 b3 : Byte} {i : Instr} (h : decode b0 b1 b2 b3 = .ok i) :
    i = .halt ↔ b0 = 0x76#8 := by
  constructor
  · rintro rfl
    exact decode_halt h
  · rintro rfl
    exact Except.ok.inj (h.symm.trans (decode_76 b1 b2 b3))

end Sys2Proof
end

section
/-! PROOFS. What a step can do before and with its instruction, and what the signals of the gap keep. -/

namespace Sys2Proof.Machine

namespace State

variable (s : State)

/-- What the four look-ahead bytes decode to. -/
abbrev decoded : Except Reject Instr :=
  decode (s.peek s.pc) (s.peek (s.pc + 1)) (s.peek (s.pc + 2)) (s.peek (s.pc + 3))

/-- The state the rule of instruction `i` starts from: the four bytes read and R advanced (R341). -/
def readied (i : Instr) : State := s.lookAhead.2.advanceR i.length (s.peek s.pc)

@[simp] theorem readied_mem (i : Instr) : (s.readied i).mem = s.mem := by simp [readied]
@[simp] theorem readied_pc (i : Instr) : (s.readied i).pc = s.pc := by simp [readied]
@[simp] theorem readied_iff1 (i : Instr) : (s.readied i).iff1 = s.iff1 := by simp [readied]
@[simp] theorem readied_iff2 (i : Instr) : (s.readied i).iff2 = s.iff2 := by simp [readied]
@[simp] theorem readied_haltSt (i : Instr) : (s.readied i).haltSt = s.haltSt := by simp [readied]

theorem signal_r (x : Signal) : (s.signal x).r = s.r := by
  rcases s.signal_cases x with ⟨_, e⟩ | ⟨_, _, e⟩ | ⟨_, _, _, e⟩ | ⟨_, _, _, e⟩ <;> simp [e]

theorem signal_cfg (x : Signal) : (s.signal x).cfg = s.cfg := by
  rcases s.signal_cases x with ⟨_, e⟩ | ⟨_, _, e⟩ | ⟨_, _, _, e⟩ | ⟨_, _, _, e⟩ <;> simp [e]

@[simp] theorem deliver_r : s.deliver.r = s.r :=
  signalAll_keeps (fun t => t.r = s.r) (fun t x h => (t.signal_r x).trans h) _ _ rfl

@[simp] theorem deliver_cfg : s.deliver.cfg = s.cfg :=
  signalAll_keeps (fun t => t.cfg = s.cfg) (fun t x h => (t.signal_cfg x).trans h) _ _ rfl

theorem signalAll_eq_foldl (xs : List Signal) : signalAll xs s = xs.foldl signal s := by
  induction xs generalizing s with
  | nil => rfl
  | cons x xs ih => exact ih _

/-- The EI-delay update touches the enables in one case alone, and then sets both (R342). -/
theorem eiUpdate_enables :
    (s.eiUpdate.iff1 = s.iff1 ∧ s.eiUpdate.iff2 = s.iff2) ∨
      (s.eiUpdate.iff1 = true ∧ s.eiUpdate.iff2 = true) := by
  unfold eiUpdate
  split
  · exact .inl ⟨rfl, rfl⟩
  · exact .inl ⟨rfl, rfl⟩
  · exact .inr ⟨rfl, rfl⟩

end State

theorem State.lookAhead_eq (s : State) : s.lookAhead = (s.fetched, s.lookAhead.2) :=
  Prod.ext s.lookAhead_fst rfl

theorem step_of_decoded {s : State} {i : Instr} (h : s.deliver.eiUpdate.decoded = .ok i) :
    step s = exec i (s.deliver.eiUpdate.readied i) := by
  unfold step engineStep
  rw [State.lookAhead_eq]
  simp only [State.fetched, h, State.readied]

theorem step_of_undecoded {s : State} {r : Reject} (h : s.deliver.eiUpdate.decoded = .error r) :
    ∃ pc b0 b1 b2 b3, step s = .fault (.decodeFault pc b0 b1 b2 b3 s.deliver.eiUpdate.lookAhead.2) := by
  unfold step engineStep
  rw [State.lookAhead_eq]
  simp only [State.fetched, h]
  exact ⟨_, _, _, _, _, rfl⟩

/-- A step that answers ran the instruction its look-ahead bytes decode to (R341). -/
theorem step_next {s t : State} (h : step s = .next t) :
    ∃ i, s.deliver.eiUpdate.decoded = .ok i ∧ exec i (s.deliver.eiUpdate.readied i) = .next t := by
  cases hd : s.deliver.eiUpdate.decoded with
  | ok i => exact ⟨i, rfl, (step_of_decoded hd).symm.trans h⟩
  | error r =>
    obtain ⟨_, _, _, _, _, e⟩ := step_of_undecoded hd
    cases e.symm.trans h

/-- A step that faults leaves the EI-delay update and the look-ahead reads (R343). -/
theorem step_fault {s after : State} {pc : Word} {b0 b1 b2 b3 : Byte}
    (h : step s = .fault (.decodeFault pc b0 b1 b2 b3 after)) :
    after = s.deliver.eiUpdate.lookAhead.2 := by
  cases hd : s.deliver.eiUpdate.decoded with
  | ok i =>
    obtain ⟨t, ht⟩ := exec_completes i (s.deliver.eiUpdate.readied i)
    cases ((step_of_decoded hd).trans ht).symm.trans h
  | error r =>
    obtain ⟨_, _, _, _, _, e⟩ := step_of_undecoded hd
    cases e.symm.trans h
    rfl

end Sys2Proof.Machine
end

section
/-! PROOFS. The invariant: each part of a step keeps it, and reset has it. -/

namespace Sys2Proof.Machine

open State

namespace State.Inv

/-- The invariant reads memory, PC, the enables and HALT_ST, and nothing else. -/
theorem congr {s t : State} (h : s.Inv) (hmem : t.mem = s.mem) (hpc : t.pc = s.pc)
    (hen : t.iff1 = true → t.iff2 = true) (hhalt : t.haltSt = s.haltSt) : t.Inv where
  memory := hmem ▸ h.memory
  enables := hen
  halted hw := by
    rw [hpc, peek_congr hmem]
    exact h.halted (hhalt ▸ hw)

/-- A signal releases a waiting engine or clears IFF1 where it moves PC (R346, R348). -/
theorem signal {s : State} (h : s.Inv) (x : Signal) : (s.signal x).Inv := by
  have hm := signal_wf x h.memory
  rcases s.signal_cases x with ⟨_, e⟩ | ⟨hw, _, e⟩ | ⟨hw, _, _, e⟩ | ⟨_, _, _, e⟩
  · exact ⟨hm, by simpa [e] using h.enables, by simp [e]⟩
  · exact ⟨hm, by simp [e], by simp [e, hw]⟩
  · exact ⟨hm, by simp [e], by simp [e, hw]⟩
  · rw [e]
    exact h

theorem deliver {s : State} (h : s.Inv) : s.deliver.Inv :=
  signalAll_keeps State.Inv (fun _ x ht => ht.signal x) _ _ ⟨h.memory, h.enables, h.halted⟩

theorem eiUpdate {s : State} (h : s.Inv) : s.eiUpdate.Inv := by
  refine h.congr s.eiUpdate_mem s.eiUpdate_pc ?_ s.eiUpdate_haltSt
  obtain ⟨h1, h2⟩ | ⟨_, h2⟩ := s.eiUpdate_enables
  · rw [h1, h2]
    exact h.enables
  · exact fun _ => h2

theorem readied {s : State} (h : s.Inv) (i : Instr) : (s.readied i).Inv :=
  h.congr (s.readied_mem i) (s.readied_pc i) (by simpa using h.enables) (s.readied_haltSt i)

end State.Inv

/-- Each instruction that writes IFF1 clears it or copies IFF2 into it (R218, R305, R306). -/
theorem exec_enables {i : Instr} {s t : State} (h : exec i s = .next t)
    (hs : s.iff1 = true → s.iff2 = true) : t.iff1 = true → t.iff2 = true := by
  by_cases hi : i = .di ∨ i = .retn ∨ i = .reti
  · rcases hi with rfl | rfl | rfl
    · cases h
      simp
    · cases h
      simp [retn_eq]
    · cases h
      simp only [reti_eq, ret_iff2]
      split
      · exact id
      · exact hs
  · obtain ⟨hdi, hretn, hreti⟩ : i ≠ .di ∧ i ≠ .retn ∧ i ≠ .reti := by simpa using hi
    obtain ⟨-, -, -, h1, h2, -⟩ := specialRegisterWriters i s t h
    rw [h1 hdi hretn fun e => absurd e hreti, h2 hdi]
    exact hs

/-- HALT alone makes the engine wait, and it stays at its own address, memory as it was (R217). -/
theorem exec_halted {i : Instr} {s t : State} (h : exec i s = .next t)
    (hi : i = .halt ↔ s.peek s.pc = 0x76#8) (hs : s.haltSt = .waiting → s.peek s.pc = 0x76#8)
    (hw : t.haltSt = .waiting) : t.peek t.pc = 0x76#8 := by
  by_cases e : i = .halt
  · have hb := hi.1 e
    subst e
    obtain ⟨-, e⟩ | ⟨-, e⟩ := exec_halt_cases s <;> cases h.symm.trans e
    · cases hw
    · exact hb
  · obtain ⟨-, -, -, -, -, -, hh, -⟩ := specialRegisterWriters i s t h
    exact absurd (hi.2 (hs (hh e ▸ hw))) e

/-- Settles O18: the gap's signals, the EI-delay update and the look-ahead keep the invariant, and so does
the instruction, by what it can do to memory, the enables and HALT_ST. -/
theorem stepKeepsInvariant : Obligations.StepKeepsInvariant := by
  unfold Obligations.StepKeepsInvariant
  intro s t hs h
  obtain ⟨i, hd, he⟩ := step_next h
  have hr := hs.deliver.eiUpdate.readied i
  have hb := eq_halt_iff hd
  rw [← peek_congr (readied_mem _ i), ← readied_pc _ i] at hb
  exact {
    memory := (exec_written he).wf hr.memory
    enables := exec_enables he hr.enables
    halted := exec_halted he hb hr.halted }

/-- Settles O19: memory is empty and no latch is set after reset. -/
theorem resetHasInvariant : Obligations.ResetHasInvariant := by
  unfold Obligations.ResetHasInvariant
  intro u cfg
  exact ⟨resetWith_mem_wf u cfg, fun h => (nomatch h), fun h => (nomatch h)⟩

end Sys2Proof.Machine
end

section
/-! PROOFS. One step: the instruction it runs (R341) and the advance of R (R31). -/

namespace Sys2Proof.Machine

open State

/-- All that comes before the instruction's rule. -/
theorem State.readied_eq (s : State) (i : Instr) :
    s.readied i = { s with
      bus := [.memRead (s.pc + 3) (s.peek (s.pc + 3)), .memRead (s.pc + 2) (s.peek (s.pc + 2)),
        .memRead (s.pc + 1) (s.peek (s.pc + 1)), .memRead s.pc (s.peek s.pc)] ++ s.bus
      r := advance s.r (rIncrement s.cfg.rPolicy i.length (s.peek s.pc)) } := by
  ext1 <;> simp [readied]

theorem State.readied_r (s : State) (i : Instr) :
    (s.readied i).r = advance s.r (rIncrement s.cfg.rPolicy i.length (s.peek s.pc)) := by rw [readied_eq]

theorem isPrefix_iff (b0 : Byte) : isPrefix b0 = true ↔ b0 ∈ [0xCB#8, 0xED#8, 0xDD#8, 0xFD#8] := by
  simp [isPrefix, or_assoc]

/-- Settles O6: `step_of_decoded`, with the increment of R written out. -/
theorem stepRunsDecodedInstruction : Obligations.StepRunsDecodedInstruction := by
  unfold Obligations.StepRunsDecodedInstruction
  intro s
  refine ⟨signalAll_eq_foldl _ _, ?_⟩
  rintro u i rfl h
  rw [step_of_decoded h]
  generalize s.deliver.eiUpdate = u
  rw [readied_eq]
  cases u.cfg.rPolicy
  · rfl
  · simp only [rIncrement, isPrefix_iff]
    rfl

/-- Bit 7 of R stays, the low seven bits count modulo 128 (R19, R31). -/
theorem advance_toNat (r : Byte) (n : Nat) :
    (advance r n).toNat = r.toNat / 128 * 128 + (r.toNat % 128 + n) % 128 := by
  have hr := r.isLt
  simp only [advance, BitVec.toNat_append, BitVec.extractLsb'_toNat, BitVec.toNat_add, BitVec.toNat_ofNat]
  rw [← Nat.shiftLeft_add_eq_or_of_lt (by omega)]
  simp only [Nat.shiftLeft_eq, Nat.shiftRight_eq_div_pow]
  omega

/-- Settles O11: R changes by `advance` alone, unless the instruction is LD R,A. -/
theorem refreshCounterAdvance : Obligations.RefreshCounterAdvance := by
  unfold Obligations.RefreshCounterAdvance
  constructor
  · rintro s t u i rfl h ht
    have he : exec i (s.deliver.eiUpdate.readied i) = .next t := (step_of_decoded h).symm.trans ht
    constructor
    · rintro rfl
      cases he
      simp [readied]
    · intro hi
      obtain ⟨-, hr, -⟩ := specialRegisterWriters i _ t he
      rw [hr hi, readied_r, eiUpdate_r, deliver_r, eiUpdate_cfg, deliver_cfg, advance_toNat]
      refine ⟨by omega, ?_⟩
      cases s.cfg.rPolicy
      · simp only [rIncrement]
        omega
      · simp only [rIncrement, isPrefix_iff]
        omega
  · intro s
    refine ⟨s.deliver_r, s.signal_r .nmi, s.signal_r .int, ?_⟩
    intro pc b0 b1 b2 b3 after h
    rw [step_fault h]
    simp

end Sys2Proof.Machine
end

section
/-! PROOFS. No part of a step reads IM (R21, R351): each commutes with replacing it. -/

namespace Sys2Proof.Machine

namespace State

/-- The state with its interrupt mode replaced. -/
def withIm (s : State) (m : IntMode) : State := { s with im := m }

variable (s : State) (m : IntMode)

theorem withIm_ite (c : Prop) [Decidable c] (t u : State) :
    (if c then t else u).withIm m = if c then t.withIm m else u.withIm m := apply_ite (withIm · m) c t u

theorem withIm_jumpRelIf (b : Bool) (e : Byte) (k n : Nat) :
    (s.withIm m).jumpRelIf b e k n = (s.jumpRelIf b e k n).withIm m := by cases b <;> rfl

theorem withIm_repeatIf (again : Bool) : (s.withIm m).repeatIf again = (s.repeatIf again).withIm m := by
  cases again <;> rfl

theorem withIm_blockIoRepeat (f : Flags) :
    (s.withIm m).blockIoRepeat f = (s.blockIoRepeat f).withIm m := by
  rw [blockIoRepeat_eq, blockIoRepeat_eq]; rfl

theorem withIm_reti (n : Nat) : (s.withIm m).reti n = (s.reti n).withIm m := by
  rw [reti_eq, reti_eq]; rfl

theorem withIm_signal (x : Signal) : (s.withIm m).signal x = (s.signal x).withIm m := by
  by_cases hw : s.haltSt = .waiting
  · cases x <;> simp [signal, signalNmi, signalInt, withIm, hw]
  · cases x with
    | nmi => simp [signal, signalNmi, withIm, hw, enter_eq]
    | int => cases hi : s.iff1 <;> simp [signal, signalInt, withIm, hw, hi, enter_eq]

theorem withIm_signalAll (xs : List Signal) : signalAll xs (s.withIm m) = (signalAll xs s).withIm m := by
  induction xs generalizing s with
  | nil => rfl
  | cons x xs ih => rw [signalAll, signalAll, withIm_signal, ih]

theorem withIm_deliver : (s.withIm m).deliver = s.deliver.withIm m :=
  withIm_signalAll { s with signals := s.signals.tail } m (s.signals.headD [])

theorem withIm_eiUpdate : (s.withIm m).eiUpdate = s.eiUpdate.withIm m := by
  cases h : s.eiSt <;> simp [eiUpdate, withIm, h]

theorem withIm_readied (i : Instr) : (s.withIm m).readied i = (s.readied i).withIm m := by
  rw [readied_eq, readied_eq]; rfl

end State

open State

/-- Every instruction but the three that write IM commutes with replacing it. -/
theorem exec_withIm {i : Instr} {s t : State} (m : IntMode) (h : exec i s = .next t)
    (hi : i ∉ [.im0, .im1, .im2]) : exec i (s.withIm m) = .next (t.withIm m) := by
  cases i
  case im0 | im1 | im2 => exact absurd (by decide) hi
  case jpCcNn | callCcNn | retCc => cases h; rw [withIm_ite]; rfl
  case jrCE | jrNcE | jrZE | jrNzE | djnzE => cases h; rw [← withIm_jumpRelIf]; rfl
  case ldir | lddr | cpir | cpdr => cases h; rw [← withIm_repeatIf]; rfl
  case inir | indr | otir | otdr => cases h; rw [← withIm_blockIoRepeat]; rfl
  case reti => cases h; rw [← withIm_reti]; rfl
  case halt =>
    obtain ⟨hs, e⟩ | ⟨hs, e⟩ := exec_halt_cases s <;> cases h.symm.trans e
    · exact if_pos hs
    · exact if_neg hs
  -- A selector names the register written: one case for each it can name.
  case ldRR r _ | ldRN r _ | ldRIndHl r | incR r | decR r | rlcR r | rrcR r | rlR r | rrR r | slaR r | sraR r
      | sllR r | srlR r | setBR _ r | resBR _ r | inRPortC r | ldRIdxIx r _ | rlcIdxIxR _ r | rrcIdxIxR _ r
      | rlIdxIxR _ r | rrIdxIxR _ r | slaIdxIxR _ r | sraIdxIxR _ r | sllIdxIxR _ r | srlIdxIxR _ r
      | setBIdxIxR _ _ r | resBIdxIxR _ _ r | ldRIdxIy r _ | rlcIdxIyR _ r | rrcIdxIyR _ r | rlIdxIyR _ r
      | rrIdxIyR _ r | slaIdxIyR _ r | sraIdxIyR _ r | sllIdxIyR _ r | srlIdxIyR _ r | setBIdxIyR _ _ r
      | resBIdxIyR _ _ r | ldPPIx r _ | ldPPIy r _ | ldDdNn r _ | ldDdIndNn r _ | incSs r | decSs r | popQq r =>
    cases h
    cases r <;> rfl
  all_goals cases h; rfl

/-- IM 0, IM 1 and IM 2 overwrite IM (R220 to R222). -/
theorem exec_im_withIm {i : Instr} (hi : i ∈ [.im0, .im1, .im2]) (s : State) (m : IntMode) :
    exec i (s.withIm m) = exec i s := by
  simp only [List.mem_cons, List.not_mem_nil, or_false] at hi
  rcases hi with rfl | rfl | rfl <;> rfl

/-- Settles O14: the gap, the EI-delay update and the look-ahead commute with replacing IM, and so does the
instruction, or it writes IM. -/
theorem interruptModeIsNeverRead : Obligations.InterruptModeIsNeverRead := by
  unfold Obligations.InterruptModeIsNeverRead
  intro s t m h
  obtain ⟨i, hd, he⟩ := step_next h
  have hu : (s.withIm m).deliver.eiUpdate = s.deliver.eiUpdate.withIm m := by
    rw [withIm_deliver, withIm_eiUpdate]
  have hs : step (s.withIm m) = exec i ((s.deliver.eiUpdate.readied i).withIm m) := by
    rw [step_of_decoded (i := i) (hu ▸ hd), hu, withIm_readied]
  by_cases hi : i ∈ [.im0, .im1, .im2]
  · exact ⟨t, hs.trans ((exec_im_withIm hi _ m).trans he), rfl⟩
  · exact ⟨t.withIm m, hs.trans (exec_withIm m he hi), rfl⟩

end Sys2Proof.Machine
end

section
/-! PROOFS. Pairs, index halves and selectors are views of the registers (R12, R13, R22 to R28). -/

namespace Sys2Proof.Machine

theorem pair_toNat (h l : Byte) : (pair h l).toNat = 256 * h.toNat + l.toNat := by
  rw [pair, BitVec.toNat_append, ← Nat.shiftLeft_add_eq_or_of_lt l.isLt, Nat.shiftLeft_eq, Nat.mul_comm]

theorem toNat_eq_hi_lo (v : Word) : v.toNat = 256 * (hi v).toNat + (lo v).toNat := by
  rw [← pair_toNat, pair_hi_lo]

namespace State

variable (s : State)

theorem getP8_setP8 (r q : RegP) (v : Byte) : (s.setP8 r v).getP8 q = if q = r then v else s.getP8 q := by
  cases r <;> cases q <;> simp [setP8, getP8, setR8, setIxh, setIxl, ixh, ixl]

theorem getQ8_setQ8 (r q : RegQ) (v : Byte) : (s.setQ8 r v).getQ8 q = if q = r then v else s.getQ8 q := by
  cases r <;> cases q <;> simp [setQ8, getQ8, setR8, setIyh, setIyl, iyh, iyl]

theorem getDd_setDd (p q : PairDd) (v : Word) : (s.setDd p v).getDd q = if q = p then v else s.getDd q := by
  cases p <;> cases q <;>
    simp [setDd, getDd, Bank.bc, Bank.de, Bank.hl, Bank.setBc, Bank.setDe, Bank.setHl]

theorem getQq_setQq (p q : PairQq) (v : Word) : (s.setQq p v).getQq q = if q = p then v else s.getQq q := by
  cases p <;> cases q <;>
    simp [setQq, getQq, Bank.bc, Bank.de, Bank.hl, Bank.af, Bank.setBc, Bank.setDe, Bank.setHl, Bank.setAf]

theorem setP8_main_fhl (r : RegP) (v : Byte) : (s.setP8 r v).main.f = s.main.f ∧
    (s.setP8 r v).main.h = s.main.h ∧ (s.setP8 r v).main.l = s.main.l := by
  cases r <;> exact ⟨rfl, rfl, rfl⟩

theorem setQ8_main_fhl (r : RegQ) (v : Byte) : (s.setQ8 r v).main.f = s.main.f ∧
    (s.setQ8 r v).main.h = s.main.h ∧ (s.setQ8 r v).main.l = s.main.l := by
  cases r <;> exact ⟨rfl, rfl, rfl⟩

theorem setDd_main_af (p : PairDd) (v : Word) :
    (s.setDd p v).main.a = s.main.a ∧ (s.setDd p v).main.f = s.main.f := by
  cases p <;> exact ⟨rfl, rfl⟩

end State

open State

/-- Settles O28: the laws of each selector, and the tables of codes by evaluation. -/
theorem registerViews : Obligations.RegisterViews := by
  unfold Obligations.RegisterViews
  refine ⟨fun s r q v => ⟨getR8_setR8 s r q v, setR8_main_f s r v, setR8_eq s r v⟩,
    fun s r q v => ?_, fun s r q v => ?_, fun s v => ?_, by decide, by decide, by decide,
    fun s p q v => ?_, fun s p q v => ⟨getQq_setQq s p q v, setQq_eq s p v⟩,
    fun s => ⟨rfl, rfl, rfl, rfl⟩⟩
  · obtain ⟨hf, hh, hl⟩ := setP8_main_fhl s r v
    exact ⟨getP8_setP8 s r q v, hf, hh, hl, setP8_eq s r v⟩
  · obtain ⟨hf, hh, hl⟩ := setQ8_main_fhl s r v
    exact ⟨getQ8_setQ8 s r q v, hf, hh, hl, setQ8_eq s r v⟩
  · exact ⟨pair_toNat _ _, pair_toNat _ _, pair_toNat _ _, pair_toNat _ _, toNat_eq_hi_lo _,
      toNat_eq_hi_lo _, rfl, rfl, rfl, Bank.af_setAf _ v, rfl⟩
  · obtain ⟨ha, hf⟩ := setDd_main_af s p v
    exact ⟨getDd_setDd s p q v, ha, hf, setDd_eq s p v⟩

end Sys2Proof.Machine
end

section
/-! PROOFS. Memory as data: canonical contents are determined by their reads (log 2), and reads after writes
(R53). -/

namespace Sys2Proof.Machine

namespace Memory

theorem read_of_not_mem {m : Memory} {a : Nat} (h : ∀ v, (a, v) ∉ m) : m.read a = fill := by
  induction m with
  | nil => rfl
  | cons c m ih =>
    have hc : c.1 ≠ a := fun e => h c.2 (e ▸ List.mem_cons_self)
    rw [read_cons, if_neg hc]
    exact ih fun v hv => h v (List.mem_cons_of_mem c hv)

theorem read_of_mem {m : Memory} {a : Nat} {v : Byte} (hm : m.Pairwise (fun c d => c.1 < d.1))
    (h : (a, v) ∈ m) : m.read a = v := by
  induction m with
  | nil => cases h
  | cons c m ih =>
    obtain ⟨hc, hm⟩ := List.pairwise_cons.1 hm
    rw [read_cons]
    rcases List.mem_cons.1 h with rfl | h
    · exact if_pos rfl
    · rw [if_neg (Nat.ne_of_lt (hc _ h)), ih hm h]

/-- In the canonical form the listed cells are the bytes inside the address space that are not the fill. -/
theorem wf.mem_iff {m : Memory} (hm : m.wf) (c : Host.Cell) :
    c ∈ m ↔ c.1 < 65536 ∧ c.2 ≠ fill ∧ m.read c.1 = c.2 := by
  constructor
  · intro h
    obtain ⟨ha, hv⟩ := hm.2 c h
    exact ⟨ha, hv, read_of_mem hm.1 h⟩
  · rintro ⟨-, hv, hr⟩
    by_contra h
    refine hv (hr.symm.trans (read_of_not_mem fun v hc => h ?_))
    have hcv : c = (c.1, v) := Prod.ext rfl (hr.symm.trans (read_of_mem hm.1 hc))
    exact hcv ▸ hc

end Memory

/-- Settles O27: canonical lists are sorted, and the reads say which cells they hold. -/
theorem equalReadsEqualMemory : Obligations.EqualReadsEqualMemory := by
  unfold Obligations.EqualReadsEqualMemory
  intro m n hm hn h
  have irrefl : Std.Irrefl fun c d : Host.Cell => c.1 < d.1 := ⟨fun c => Nat.lt_irrefl c.1⟩
  have antisymm : Std.Antisymm fun c d : Host.Cell => c.1 < d.1 :=
    ⟨fun _ _ hcd hdc => absurd hdc (Nat.lt_asymm hcd)⟩
  refine hm.1.eq_of_mem_iff hn.1 fun c => ?_
  rw [Memory.wf.mem_iff hm, Memory.wf.mem_iff hn]
  refine and_congr_right fun hc => ?_
  have hr : m.read c.1 = n.read c.1 := h ⟨c.1, hc⟩
  rw [hr]

/-- Settles O26: the reading rules of one byte and of a word; the frames by evaluation. -/
theorem memoryReadAfterWrite : Obligations.MemoryReadAfterWrite := by
  unfold Obligations.MemoryReadAfterWrite
  intro s a x v b
  exact ⟨rfl, s.peek_memWrite a x b, rfl, rfl, s.peek_memWrite16 a x v, rfl⟩

end Sys2Proof.Machine
end

section
/-! PROOFS. What a step does at the memory and port interfaces (R52, R57): each access goes to the trace as it
is made. -/

namespace Sys2Proof.Machine

/-- The environment's side of the memory and port interfaces, with the trace of accesses. -/
structure Outside where
  mem : Memory
  bus : List BusAccess
  portIn : List Byte

/-- What a state holds of the two interfaces. -/
def State.outside (s : State) : Outside where
  mem := s.mem
  bus := s.bus
  portIn := s.portIn

/-- What accesses, each put on the trace, can make of `o`; port accesses only where `ports` holds. -/
inductive Issued (ports : Prop) (o : Outside) : Outside → Prop
  | none : Issued ports o o
  | memRead {m : Memory} {b : List BusAccess} {p : List Byte} (a : Word) :
    Issued ports o ⟨m, b, p⟩ → Issued ports o ⟨m, .memRead a (m.read a.toNat) :: b, p⟩
  | memWrite {m : Memory} {b : List BusAccess} {p : List Byte} (a : Word) (v : Byte) :
    Issued ports o ⟨m, b, p⟩ → Issued ports o ⟨m.write a.toNat v, .memWrite a v :: b, p⟩
  | portRead {m : Memory} {b : List BusAccess} {p : List Byte} (h : ports) (a : Word) (v : Byte) :
    Issued ports o ⟨m, b, p⟩ → Issued ports o ⟨m, .portRead a v :: b, p.tail⟩
  | portWrite {m : Memory} {b : List BusAccess} {p : List Byte} (h : ports) (a : Word) (v : Byte) :
    Issued ports o ⟨m, b, p⟩ → Issued ports o ⟨m, .portWrite a v :: b, p⟩

open State

namespace Issued

variable {ports : Prop} {o p : Outside}

/-- The accesses issued replay to the memory after them, and their reads are honest. -/
theorem replays (h : Issued ports o p) :
    ∃ es, p.bus = es ++ o.bus ∧ p.mem = Claim.replay es o.mem ∧ Claim.honest es o.mem := by
  induction h with
  | none => exact ⟨[], rfl, rfl, trivial⟩
  | memRead a _ ih =>
    obtain ⟨es, rfl, rfl, hh⟩ := ih
    exact ⟨.memRead a _ :: es, rfl, rfl, rfl, hh⟩
  | memWrite a v _ ih =>
    obtain ⟨es, rfl, rfl, hh⟩ := ih
    exact ⟨.memWrite a v :: es, rfl, rfl, hh⟩
  | portRead _ a v _ ih =>
    obtain ⟨es, rfl, rfl, hh⟩ := ih
    exact ⟨.portRead a v :: es, rfl, rfl, hh⟩
  | portWrite _ a v _ ih =>
    obtain ⟨es, rfl, rfl, hh⟩ := ih
    exact ⟨.portWrite a v :: es, rfl, rfl, hh⟩

/-- Where no port may be reached, every access is a memory access and no port answer is used up. -/
theorem onMemory (h : Issued False o p) :
    p.portIn = o.portIn ∧ ∃ es, p.bus = es ++ o.bus ∧ ∀ e ∈ es, Claim.onMemory e := by
  induction h with
  | none => exact ⟨rfl, [], rfl, by simp⟩
  | memRead a _ ih =>
    obtain ⟨hp, es, rfl, hes⟩ := ih
    exact ⟨hp, .memRead a _ :: es, rfl, List.forall_mem_cons.2 ⟨trivial, hes⟩⟩
  | memWrite a v _ ih =>
    obtain ⟨hp, es, rfl, hes⟩ := ih
    exact ⟨hp, .memWrite a v :: es, rfl, List.forall_mem_cons.2 ⟨trivial, hes⟩⟩
  | portRead hp => exact hp.elim
  | portWrite hp => exact hp.elim

end Issued

namespace State

variable (s : State)

/-! ### Operations that make no access -/

@[simp] theorem outside_setA (v : Byte) : (s.setA v).outside = s.outside := by simp [outside]
@[simp] theorem outside_setB (v : Byte) : (s.setB v).outside = s.outside := by simp [outside]
@[simp] theorem outside_setDe (v : Word) : (s.setDe v).outside = s.outside := by simp [outside]
@[simp] theorem outside_setHl (v : Word) : (s.setHl v).outside = s.outside := by simp [outside]
@[simp] theorem outside_setIx (v : Word) : (s.setIx v).outside = s.outside := by simp [outside]
@[simp] theorem outside_setIy (v : Word) : (s.setIy v).outside = s.outside := by simp [outside]
@[simp] theorem outside_setSp (v : Word) : (s.setSp v).outside = s.outside := by simp [outside]
@[simp] theorem outside_setIxh (v : Byte) : (s.setIxh v).outside = s.outside := by simp [outside]
@[simp] theorem outside_setIxl (v : Byte) : (s.setIxl v).outside = s.outside := by simp [outside]
@[simp] theorem outside_setIyh (v : Byte) : (s.setIyh v).outside = s.outside := by simp [outside]
@[simp] theorem outside_setIyl (v : Byte) : (s.setIyl v).outside = s.outside := by simp [outside]
@[simp] theorem outside_setR8 (r : Reg8) (v : Byte) : (s.setR8 r v).outside = s.outside := by simp [outside]
@[simp] theorem outside_setP8 (r : RegP) (v : Byte) : (s.setP8 r v).outside = s.outside := by simp [outside]
@[simp] theorem outside_setQ8 (r : RegQ) (v : Byte) : (s.setQ8 r v).outside = s.outside := by simp [outside]
@[simp] theorem outside_setDd (p : PairDd) (v : Word) : (s.setDd p v).outside = s.outside := by simp [outside]
@[simp] theorem outside_setQq (p : PairQq) (v : Word) : (s.setQq p v).outside = s.outside := by simp [outside]
@[simp] theorem outside_putFlags (f : Flags) : (s.putFlags f).outside = s.outside := by simp [outside]
@[simp] theorem outside_jump (t : Word) (n : Nat) : (s.jump t n).outside = s.outside := by simp [outside]
@[simp] theorem outside_finish (len n : Nat) : (s.finish len n).outside = s.outside := by simp [outside]
@[simp] theorem outside_acc (op : AccOp) (v : Byte) : (s.acc op v).outside = s.outside := by
  simp [outside, acc_eq]
@[simp] theorem outside_addHl (v : Word) : (s.addHl v).outside = s.outside := by simp [outside, addHl_eq]
@[simp] theorem outside_jumpRelIf (b : Bool) (e : Byte) (m n : Nat) :
    (s.jumpRelIf b e m n).outside = s.outside := by simp [outside, jumpRelIf_eq]
@[simp] theorem outside_repeatIf (again : Bool) : (s.repeatIf again).outside = s.outside := by
  simp [outside, repeatIf_eq]
@[simp] theorem outside_blockIoRepeat (f : Flags) : (s.blockIoRepeat f).outside = s.outside := by
  simp [outside, blockIoRepeat_eq]
@[simp] theorem outside_retn (n : Nat) : (s.retn n).outside = (s.ret n).outside := by simp [outside, retn_eq]
@[simp] theorem outside_reti (n : Nat) : (s.reti n).outside = (s.ret n).outside := by simp [outside, reti_eq]
@[simp] theorem outside_eiUpdate : s.eiUpdate.outside = s.outside := by simp [outside]

end State

namespace Issued

variable {s : State} {ports : Prop} {o : Outside}

/-! ### The accesses of the operations that make some -/

theorem readAt (a : Word) (h : Issued ports o s.outside) :
    Issued ports o (s.record (.memRead a (s.peek a))).outside := h.memRead a

theorem writeAt (a : Word) (v : Byte) (h : Issued ports o s.outside) :
    Issued ports o (s.memWrite a v).outside := h.memWrite a v

theorem writeAt16 (a v : Word) (h : Issued ports o s.outside) :
    Issued ports o (s.memWrite16 a v).outside := (h.memWrite a _).memWrite _ _

theorem push16 (v : Word) (h : Issued ports o s.outside) : Issued ports o (s.push16 v).outside :=
  (h.memWrite _ _).memWrite _ _

theorem ret (n : Nat) (h : Issued ports o s.outside) : Issued ports o (s.ret n).outside :=
  (h.memRead s.sp).memRead (s.sp + 1)

theorem call (len : Nat) (target : Word) (n : Nat) (h : Issued ports o s.outside) :
    Issued ports o (s.call len target n).outside := h.push16 (s.npc len)

theorem incMem (a : Word) (h : Issued ports o s.outside) : Issued ports o (s.incMem a).outside :=
  (h.memRead a).memWrite a _

theorem decMem (a : Word) (h : Issued ports o s.outside) : Issued ports o (s.decMem a).outside :=
  (h.memRead a).memWrite a _

theorem blockTransfer (k : Word) (h : Issued ports o s.outside) :
    Issued ports o (s.blockTransfer k).outside := (h.memRead s.main.hl).memWrite s.main.de _

theorem blockSearch (k : Word) (h : Issued ports o s.outside) :
    Issued ports o (s.blockSearch k).outside := h.memRead s.main.hl

theorem exchangeTop (v : Word) (h : Issued ports o s.outside) :
    Issued ports o (s.exchangeTop v).2.outside := by
  rw [exchangeTop_eq]
  exact (((h.memRead s.sp).memRead (s.sp + 1)).memWrite (s.sp + 1) _).memWrite s.sp _

/-- A port read, its pair taken apart. -/
theorem answered (hp : ports) (p : Word) (n : Nat) (h : Issued ports o s.outside) :
    Issued ports o { s with
      portIn := s.portIn.tail, bus := .portRead p (s.portAnswer p) :: s.bus, draws := n }.outside :=
  h.portRead hp p _

theorem outputTo (hp : ports) (p : Word) (v : Byte) (h : Issued ports o s.outside) :
    Issued ports o (s.portWrite p v).outside := h.portWrite hp p v

theorem enter (v : Word) (h : Issued ports o s.outside) : Issued ports o (s.enter v).outside :=
  h.push16 s.pc

theorem signal (x : Signal) (h : Issued ports o s.outside) : Issued ports o (s.signal x).outside := by
  rcases s.signal_cases x with ⟨_, e⟩ | ⟨_, _, e⟩ | ⟨_, _, _, e⟩ | ⟨_, _, _, e⟩ <;> rw [e]
  · exact h
  · exact h.enter s.cfg.nmiVector
  · exact h.enter s.cfg.intVector
  · exact h

theorem deliver (h : Issued ports o s.outside) : Issued ports o s.deliver.outside :=
  signalAll_keeps (fun t => Issued ports o t.outside) (fun _ x ht => ht.signal x) _ _ h

theorem readied (i : Instr) (h : Issued ports o s.outside) : Issued ports o (s.readied i).outside := by
  rw [readied_eq]
  exact (((h.memRead s.pc).memRead (s.pc + 1)).memRead (s.pc + 2)).memRead (s.pc + 3)

/-- An instruction reaches memory and ports through the access primitives alone, and the ports in the input
and output group alone (R34, R52, R57). -/
theorem exec {i : Instr} {t : State} (he : exec i s = .next t) (hp : i.group = .inputOutput → ports)
    (h : Issued ports o s.outside) : Issued ports o t.outside := by
  cases i
  case halt => obtain ⟨-, e⟩ | ⟨-, e⟩ := exec_halt_cases s <;> cases he.symm.trans e <;> exact h
  case ldIA | ldRA | exAfAf | exx | di | ei | im0 | im1 | im2 => cases he; exact h
  case jpCcNn | callCcNn | retCc => cases he; split <;> simp [h, ret, call]
  case exIndSpHl => cases he; exact h.exchangeTop s.main.hl
  case exIndSpIx => cases he; exact h.exchangeTop s.ix
  case exIndSpIy => cases he; exact h.exchangeTop s.iy
  case inAPortN | inRPortC | ini | inir | ind | indr | outPortNA | outPortCR | outi | otir | outd | otdr =>
    cases he
    simp [h, readAt, writeAt, answered (hp rfl), outputTo (hp rfl)]
  all_goals
    cases he
    simp [h, readAt, writeAt, writeAt16, push16, ret, call, incMem, decMem, blockTransfer, blockSearch]

end Issued

/-- Settles O17: signals, look-ahead and instruction are accesses put on the trace as they are made. -/
theorem memoryIsWhatTheBusWrote : Obligations.MemoryIsWhatTheBusWrote := by
  unfold Obligations.MemoryIsWhatTheBusWrote
  intro s t h
  obtain ⟨i, -, he⟩ := step_next h
  have hd : Issued True s.outside s.deliver.eiUpdate.outside := by
    rw [outside_eiUpdate]
    exact Issued.none.deliver
  exact ((hd.readied i).exec he fun _ => trivial).replays

/-- Settles O16: outside the group no port may be reached. -/
theorem onlyIoInstructionsTouchPorts : Obligations.OnlyIoInstructionsTouchPorts := by
  unfold Obligations.OnlyIoInstructionsTouchPorts
  intro i s t h hi
  exact (Issued.none.exec h hi).onMemory

end Sys2Proof.Machine
end

section
/-! PROOFS. The stack instructions (R69, R181 to R184). -/

namespace Sys2Proof.Machine

open State Claim

/-- A push in the stack's terms: the pushed word stands at the new SP (R69). -/
theorem stored16_of_push16 {i : Instr} {bytes : List Byte} {s : State} {v : Word} {len n : Nat}
    (hb : encode i = bytes) (he : exec i s = .next ((s.push16 v).finish len n)) :
    stored16 i bytes s { past s len n (pushes s v) with sp := s.sp - 2 } (s.sp - 2) v := by
  have hsp : s.sp - 2 + 1 = s.sp - 1 := by bv_omega
  have hne : s.sp - 1 ≠ s.sp - 2 := by bv_omega
  refine ⟨hb, _, he, ?_, ?_, fun x hx hx1 => ?_, rfl⟩
  · exact (s.peek_push16 _ v).trans (if_pos rfl)
  · rw [hsp]
    exact (s.peek_push16 _ v).trans ((if_neg hne).trans (if_pos rfl))
  · rw [hsp] at hx1
    exact (s.peek_push16 x v).trans ((if_neg hx).trans (if_neg hx1))

/-- Settles O40: each PUSH by `stored16_of_push16`, each POP by evaluation, one case for each pair. -/
theorem pushPopForms : Obligations.PushPopForms := by
  unfold Obligations.PushPopForms
  intro s p
  refine ⟨stored16_of_push16 rfl rfl, stored16_of_push16 rfl rfl, stored16_of_push16 rfl rfl, ⟨rfl, ?_⟩,
    ⟨rfl, rfl⟩, ⟨rfl, rfl⟩, ⟨?_, ?_⟩, by bv_omega⟩
  · cases p <;> rfl
  · simp [setQq, Bank.setAf, word]
  · simp [setQq, Bank.setAf, word]

end Sys2Proof.Machine
end

section
/-! PROOFS. The fields of an opcode byte and the selectors: codes and names determine each other (R22 to R28,
R84, R85). -/

namespace Sys2Proof

open Machine

theorem Reg8.ofCode_eq_some {k : BitVec 3} {r : Reg8} : Reg8.ofCode k = some r ↔ r.code = k.setWidth 8 := by
  revert k; cases r <;> decide

theorem RegP.ofCode_eq_some {k : BitVec 3} {r : RegP} : RegP.ofCode k = some r ↔ r.code = k.setWidth 8 := by
  revert k; cases r <;> decide

theorem RegQ.ofCode_eq_some {k : BitVec 3} {r : RegQ} : RegQ.ofCode k = some r ↔ r.code = k.setWidth 8 := by
  revert k; cases r <;> decide

@[simp] theorem PairDd.code_ofCode (k : BitVec 2) : (PairDd.ofCode k).code = k.setWidth 8 := by revert k; decide

@[simp] theorem PairQq.code_ofCode (k : BitVec 2) : (PairQq.ofCode k).code = k.setWidth 8 := by revert k; decide

@[simp] theorem PairPp.code_ofCode (k : BitVec 2) : (PairPp.ofCode k).code = k.setWidth 8 := by revert k; decide

@[simp] theorem PairRr.code_ofCode (k : BitVec 2) : (PairRr.ofCode k).code = k.setWidth 8 := by revert k; decide

@[simp] theorem Cond.code_ofCode (k : BitVec 3) : (Cond.ofCode k).code = k.setWidth 8 := by revert k; decide

/-- An opcode byte with a field in bits 5..3 is its pattern with the field put back; so for the other fields. -/
@[simp] theorem at53_bits53 {op pat : Byte} (h : op &&& 0xC7#8 = pat) :
    at53 pat ((bits53 op).setWidth 8) = op := by
  subst h; revert op; decide

@[simp] theorem at54_bits54 {op pat : Byte} (h : op &&& 0xCF#8 = pat) :
    at54 pat ((bits54 op).setWidth 8) = op := by
  subst h; revert op; decide

@[simp] theorem at20_bits20 {op pat : Byte} (h : op &&& 0xF8#8 = pat) :
    at20 pat ((bits20 op).setWidth 8) = op := by
  subst h; revert op; decide

@[simp] theorem at20_at53_bits {op pat : Byte} (h : op &&& 0xC0#8 = pat) :
    at20 (at53 pat ((bits53 op).setWidth 8)) ((bits20 op).setWidth 8) = op := by
  subst h; revert op; decide

/-- A full mask leaves no field. -/
@[simp] theorem and_ff (op : Byte) : op &&& 0xFF#8 = op := BitVec.and_allOnes

/-- The eight values of a field of three bits. -/
theorem bitVec3_cases {motive : BitVec 3 → Prop} (h0 : motive 0#3) (h1 : motive 1#3) (h2 : motive 2#3)
    (h3 : motive 3#3) (h4 : motive 4#3) (h5 : motive 5#3) (h6 : motive 6#3) (h7 : motive 7#3) (k : BitVec 3) :
    motive k := by
  have hk : k = 0#3 ∨ k = 1#3 ∨ k = 2#3 ∨ k = 3#3 ∨ k = 4#3 ∨ k = 5#3 ∨ k = 6#3 ∨ k = 7#3 := by
    revert k; decide
  rcases hk with rfl | rfl | rfl | rfl | rfl | rfl | rfl | rfl <;> assumption

/-- A word is the pair of its bytes. -/
theorem pair_cases {motive : Word → Prop} (h : ∀ a b : Byte, motive (pair a b)) (v : Word) : motive v :=
  pair_hi_lo v ▸ h (hi v) (lo v)

end Sys2Proof
end

section
/-! PROOFS. A space of the opcode table in its rows' terms: the opcode byte alone decides which row takes the
bytes, and each row writes the bytes it reads (R81, R83). -/

namespace Sys2Proof

open Machine

/-- Does the row take bytes with this opcode byte? Written on numbers, which evaluate faster than words. -/
def Row.claims (row : Row) (op : Byte) : Bool :=
  (op.toNat &&& row.mask.toNat == row.pat.toNat) && (row.build op 0#8 0#8 0#8).isSome

/-- Whether a row builds an instruction is settled by the opcode byte. -/
def ByOpcode (rows : List Row) : Prop :=
  ∀ row ∈ rows, ∀ op b1 b2 b3, (row.build op b1 b2 b3).isSome = (row.build op 0#8 0#8 0#8).isSome

/-- What a row builds is well formed and is written as the bytes it was built from; `bytes` places the
opcode byte and the look-ahead bytes of the space. -/
def Writes (bytes : Byte → Byte → Byte → Byte → List Byte) (rows : List Row) : Prop :=
  ∀ row ∈ rows, ∀ op b1 b2 b3, op &&& row.mask = row.pat → ∀ i, row.build op b1 b2 b3 = some i →
    i.WellFormed ∧ encode i = (bytes op b1 b2 b3).take i.length

/-- No opcode is claimed by two rows, and those in `free` are the ones no row claims. -/
def ClaimedBut (free : Byte → Prop) (rows : List Row) : Prop :=
  ∀ op, rows.countP (·.claims op) ≤ 1 ∧ (rows.countP (·.claims op) = 0 ↔ free op)

theorem Row.takes_eq_some {row : Row} {op b1 b2 b3 : Byte} {i : Instr} :
    row.takes op b1 b2 b3 = some i ↔ op &&& row.mask = row.pat ∧ row.build op b1 b2 b3 = some i := by
  simp [Row.takes]

namespace ByOpcode

variable {rows : List Row} (h : ByOpcode rows)
include h

theorem isSome_takes {row : Row} (hr : row ∈ rows) (op b1 b2 b3 : Byte) :
    (row.takes op b1 b2 b3).isSome = row.claims op := by
  have hm : (op.toNat &&& row.mask.toNat = row.pat.toNat) ↔ op &&& row.mask = row.pat := by
    simp [BitVec.toNat_eq]
  by_cases hp : op &&& row.mask = row.pat <;> simp [Row.takes, Row.claims, hm, hp, h row hr op b1 b2 b3]

theorem countP_takes (op b1 b2 b3 : Byte) :
    rows.countP (fun row => (row.takes op b1 b2 b3).isSome) = rows.countP (·.claims op) :=
  List.countP_congr fun _ hr => by rw [h.isSome_takes hr]

end ByOpcode

theorem pick_eq_findSome? (rows : List Row) (op b1 b2 b3 : Byte) :
    pick rows op b1 b2 b3 = rows.findSome? (·.takes op b1 b2 b3) := by
  induction rows with
  | nil => rfl
  | cons row rows ih =>
    unfold pick
    rw [List.findSome?_cons, ih]
    cases row.takes op b1 b2 b3 <;> rfl

/-- The decoder picks no instruction exactly where no row claims the opcode byte. -/
theorem ClaimedBut.pick_eq_none {free : Byte → Prop} {rows : List Row} (hc : ClaimedBut free rows)
    (h : ByOpcode rows) (op b1 b2 b3 : Byte) : pick rows op b1 b2 b3 = none ↔ free op := by
  rw [← (hc op).2, pick_eq_findSome?, ← h.countP_takes op b1 b2 b3]
  simp

/-- At most one row takes given bytes. -/
theorem ClaimedBut.length_filter_takes_le {free : Byte → Prop} {rows : List Row} (hc : ClaimedBut free rows)
    (h : ByOpcode rows) (op b1 b2 b3 : Byte) :
    (rows.filter fun row => (row.takes op b1 b2 b3).isSome).length ≤ 1 := by
  rw [← List.countP_eq_length_filter, h.countP_takes]
  exact (hc op).1

/-- The first row that claims the opcode byte builds the instruction. -/
theorem ByOpcode.pick_eq_build {rows : List Row} (h : ByOpcode rows) (op b1 b2 b3 : Byte) :
    pick rows op b1 b2 b3 = (rows.find? (·.claims op)).bind (·.build op b1 b2 b3) := by
  induction rows with
  | nil => rfl
  | cons row rows ih =>
    have hs := h.isSome_takes List.mem_cons_self op b1 b2 b3
    have ih := ih fun r hr => h r (List.mem_cons_of_mem _ hr)
    cases ht : row.takes op b1 b2 b3 with
    | none => simp_all [pick]
    | some i =>
      have hb := (Row.takes_eq_some.1 ht).2
      simp_all [pick]

/-- What the decoder picks is written as the bytes it was picked from. -/
theorem Writes.of_pick {bytes : Byte → Byte → Byte → Byte → List Byte} {rows : List Row}
    (h : Writes bytes rows) {op b1 b2 b3 : Byte} {i : Instr} (hp : pick rows op b1 b2 b3 = some i) :
    i.WellFormed ∧ encode i = (bytes op b1 b2 b3).take i.length :=
  let ⟨row, hr, hm, hb⟩ := pick_eq_some hp
  h row hr op b1 b2 b3 hm i hb

/-! What a row builds, one register field at a time. -/

section

variable {P : Instr → Prop}

theorem forall_built_some {j : Instr} : (∀ i, some j = some i → P i) ↔ P j := by simp

theorem forall_built_ite {c : Prop} [Decidable c] {j : Instr} :
    (∀ i, (if c then some j else none) = some i → P i) ↔ (c → P j) := by simp +contextual

theorem forall_built_bind {α : Type} {o : Option α} {f : α → Option Instr} :
    (∀ i, (o >>= f) = some i → P i) ↔ ∀ r, o = some r → ∀ i, f r = some i → P i := by
  simp only [Option.bind_eq_bind, Option.bind_eq_some_iff, exists_imp, and_imp]
  exact ⟨fun h r hr i hf => h i r hr hf, fun h i r hr hf => h r hr i hf⟩

end

end Sys2Proof
end

section
/-! PROOFS. The seven spaces of the table (R90 to R94), each with the opcodes no row claims (R95). -/

namespace Sys2Proof

open Machine

/-! Only the opcode byte decides whether a row of the space builds an instruction. -/

theorem byOpcode_mainRows : ByOpcode mainRows := by
  simp only [ByOpcode, mainRows, mainRows1, mainRows2, mainRows3, mainRows4, List.forall_mem_append,
    List.forall_mem_cons]
  simp [Option.isSome_bind]

theorem byOpcode_cbRows : ByOpcode cbRows := by
  simp only [ByOpcode, cbRows, List.forall_mem_cons]
  simp

theorem byOpcode_edRows : ByOpcode edRows := by
  simp only [ByOpcode, edRows, edRows1, edRows2, List.forall_mem_append, List.forall_mem_cons]
  simp

theorem byOpcode_ddRows : ByOpcode ddRows := by
  simp only [ByOpcode, ddRows, ddRows1, ddRows2, List.forall_mem_append, List.forall_mem_cons]
  simp [Option.isSome_bind]

theorem byOpcode_fdRows : ByOpcode fdRows := by
  simp only [ByOpcode, fdRows, fdRows1, fdRows2, List.forall_mem_append, List.forall_mem_cons]
  simp [Option.isSome_bind]

theorem byOpcode_ddcbRows : ByOpcode ddcbRows := by
  simp only [ByOpcode, ddcbRows, List.forall_mem_cons]
  simp [Option.isSome_bind]

theorem byOpcode_fdcbRows : ByOpcode fdcbRows := by
  simp only [ByOpcode, fdcbRows, List.forall_mem_cons]
  simp [Option.isSome_bind]

/-! Each row writes the bytes it reads (R82). Where a row has a register field, its code is the field; the one
row with an excluded combination is `LD p,p'` (R159). -/

theorem writes_mainRows : Writes (fun op b1 b2 b3 => [op, b1, b2, b3]) mainRows := by
  simp only [Writes, mainRows, mainRows1, mainRows2, mainRows3, mainRows4, List.forall_mem_append,
    List.forall_mem_cons, forall_built_bind, forall_built_some, Option.pure_def, Reg8.ofCode_eq_some, and_ff,
    List.not_mem_nil, false_imp_iff, implies_true, and_true]
  and_intros
  all_goals
    intros
    exact ⟨rfl, by simp [encode, Instr.length, *]⟩

theorem writes_cbRows : Writes (fun op _ b2 b3 => [0xCB#8, op, b2, b3]) cbRows := by
  simp only [Writes, cbRows, List.forall_mem_cons, forall_built_bind, forall_built_some, Option.pure_def,
    Reg8.ofCode_eq_some, and_ff, List.not_mem_nil, false_imp_iff, implies_true, and_true]
  and_intros
  all_goals
    intros
    exact ⟨rfl, by simp [encode, Instr.length, *]⟩

theorem writes_edRows : Writes (fun op _ b2 b3 => [0xED#8, op, b2, b3]) edRows := by
  simp only [Writes, edRows, edRows1, edRows2, List.forall_mem_append, List.forall_mem_cons,
    forall_built_bind, forall_built_some, Option.pure_def, Reg8.ofCode_eq_some, and_ff, List.not_mem_nil,
    false_imp_iff, implies_true, and_true]
  and_intros
  all_goals
    intros
    exact ⟨rfl, by simp [encode, Instr.length, *]⟩

theorem writes_ddRows : Writes (fun op _ b2 b3 => [0xDD#8, op, b2, b3]) ddRows := by
  simp only [Writes, ddRows, ddRows1, ddRows2, List.forall_mem_append, List.forall_mem_cons,
    forall_built_bind, forall_built_some, halfPairIx, forall_built_ite, Option.pure_def, Reg8.ofCode_eq_some,
    RegP.ofCode_eq_some, and_ff, List.not_mem_nil, false_imp_iff, implies_true, and_true]
  and_intros
  all_goals intros
  -- `LD p,p'`
  case refine_1.refine_2.refine_2.refine_2.refine_1 hp _ hr _ hq hhalf =>
    exact ⟨hhalf, by simp [encode, Instr.length, hr, hq, hp]⟩
  all_goals exact ⟨rfl, by simp [encode, Instr.length, *]⟩

theorem writes_fdRows : Writes (fun op _ b2 b3 => [0xFD#8, op, b2, b3]) fdRows := by
  simp only [Writes, fdRows, fdRows1, fdRows2, List.forall_mem_append, List.forall_mem_cons,
    forall_built_bind, forall_built_some, halfPairIy, forall_built_ite, Option.pure_def, Reg8.ofCode_eq_some,
    RegQ.ofCode_eq_some, and_ff, List.not_mem_nil, false_imp_iff, implies_true, and_true]
  and_intros
  all_goals intros
  -- `LD p,p'`
  case refine_1.refine_2.refine_2.refine_2.refine_1 hp _ hr _ hq hhalf =>
    exact ⟨hhalf, by simp [encode, Instr.length, hr, hq, hp]⟩
  all_goals exact ⟨rfl, by simp [encode, Instr.length, *]⟩

theorem writes_ddcbRows : Writes (fun op _ b2 _ => [0xDD#8, 0xCB#8, b2, op]) ddcbRows := by
  simp only [Writes, ddcbRows, List.forall_mem_cons, forall_built_bind, forall_built_some, Option.pure_def,
    Reg8.ofCode_eq_some, and_ff, List.not_mem_nil, false_imp_iff, implies_true, and_true]
  and_intros
  all_goals
    intros
    exact ⟨rfl, by simp [encode, Instr.length, *]⟩

theorem writes_fdcbRows : Writes (fun op _ b2 _ => [0xFD#8, 0xCB#8, b2, op]) fdcbRows := by
  simp only [Writes, fdcbRows, List.forall_mem_cons, forall_built_bind, forall_built_some, Option.pure_def,
    Reg8.ofCode_eq_some, and_ff, List.not_mem_nil, false_imp_iff, implies_true, and_true]
  and_intros
  all_goals
    intros
    exact ⟨rfl, by simp [encode, Instr.length, *]⟩

/-! Which rows claim an opcode byte: one evaluation for each of its 256 values. -/

theorem claimed_mainRows : ClaimedBut (· ∈ [0xCB#8, 0xDD#8, 0xED#8, 0xFD#8]) mainRows := by
  unfold ClaimedBut; decide

theorem claimed_cbRows : ClaimedBut (fun _ => False) cbRows := by unfold ClaimedBut; decide

theorem claimed_edRows : ClaimedBut Claim.edFaults edRows := by unfold ClaimedBut Claim.edFaults; decide

theorem claimed_ddRows : ClaimedBut (fun op => op = 0xCB#8 ∨ Claim.indexFaults op) ddRows := by
  unfold ClaimedBut Claim.indexFaults; decide

theorem claimed_fdRows : ClaimedBut (fun op => op = 0xCB#8 ∨ Claim.indexFaults op) fdRows := by
  unfold ClaimedBut Claim.indexFaults; decide

theorem claimed_ddcbRows : ClaimedBut (fun _ => False) ddcbRows := by unfold ClaimedBut; decide

theorem claimed_fdcbRows : ClaimedBut (fun _ => False) fdcbRows := by unfold ClaimedBut; decide

end Sys2Proof
end

section
/-! PROOFS. Decoding in the spaces' terms: what decodes is written as the bytes it was read from (R80, R81). -/

namespace Sys2Proof

open Machine

theorem toOption_decode (b0 b1 b2 b3 : Byte) :
    (decode b0 b1 b2 b3).toOption = pick (space b0 b1 b3).1 (space b0 b1 b3).2.1 b1 b2 b3 := by
  unfold decode
  obtain ⟨rows, op, rej⟩ := space b0 b1 b3
  dsimp only
  cases pick rows op b1 b2 b3 <;> rfl

theorem decode_eq_ok {b0 b1 b2 b3 : Byte} {i : Instr} :
    decode b0 b1 b2 b3 = .ok i ↔ pick (space b0 b1 b3).1 (space b0 b1 b3).2.1 b1 b2 b3 = some i := by
  rw [← toOption_decode]
  cases decode b0 b1 b2 b3 <;> simp [Except.toOption]

theorem exists_decode_eq_error {b0 b1 b2 b3 : Byte} :
    (∃ r, decode b0 b1 b2 b3 = .error r) ↔ (decode b0 b1 b2 b3).toOption = none := by
  cases decode b0 b1 b2 b3 <;> simp [Except.toOption]

/-- Settles O2: in each of the seven spaces the rows write the bytes they read. -/
theorem decodedBytesAreEncoding : Obligations.DecodedBytesAreEncoding := by
  unfold Obligations.DecodedBytesAreEncoding
  intro b0 b1 b2 b3 i h
  have hp := decode_ok h
  unfold space at hp
  split_ifs at hp <;> subst_vars
  · exact writes_cbRows.of_pick hp
  · exact writes_edRows.of_pick hp
  · exact writes_ddcbRows.of_pick hp
  · exact writes_ddRows.of_pick hp
  · exact writes_fdcbRows.of_pick hp
  · exact writes_fdRows.of_pick hp
  · exact writes_mainRows.of_pick hp

end Sys2Proof
end

section
/-! PROOFS. What is encoded decodes (R80, R82, R98): the row of each instruction, found by evaluation. -/

namespace Sys2Proof

open Machine

/-- What the row that claims the opcode byte builds. -/
def built (rows : List Row) (op b1 b2 b3 : Byte) : Option Instr :=
  (rows.find? (·.claims op)).bind (·.build op b1 b2 b3)

/-- The decoder's choice in a form that evaluates on literal opcodes with any operand bytes: the tests are on
numbers, and the row is chosen by the opcode byte alone. `lookup_eq_pick` ties it to the decoder. -/
def lookup (b0 b1 b2 b3 : Byte) : Option Instr :=
  bif b0.toNat == 0xCB then built cbRows b1 b1 b2 b3
  else bif b0.toNat == 0xED then built edRows b1 b1 b2 b3
  else bif b0.toNat == 0xDD then
    bif b1.toNat == 0xCB then built ddcbRows b3 b1 b2 b3 else built ddRows b1 b1 b2 b3
  else bif b0.toNat == 0xFD then
    bif b1.toNat == 0xCB then built fdcbRows b3 b1 b2 b3 else built fdRows b1 b1 b2 b3
  else built mainRows b0 b1 b2 b3

/-- `lookup` on a list, such as `decodeBytes` takes. -/
def lookupBytes : List Byte → Option Instr
  | b0 :: b1 :: b2 :: b3 :: _ => lookup b0 b1 b2 b3
  | _ => none

theorem toNat_beq (b : Byte) {n : Nat} (hn : n < 256) : (b.toNat == n) = decide (b = BitVec.ofNat 8 n) := by
  simp [BitVec.toNat_eq, Nat.mod_eq_of_lt hn, beq_eq_decide]

theorem lookup_eq_pick (b0 b1 b2 b3 : Byte) :
    lookup b0 b1 b2 b3 = pick (space b0 b1 b3).1 (space b0 b1 b3).2.1 b1 b2 b3 := by
  simp only [lookup, built, ← byOpcode_mainRows.pick_eq_build, ← byOpcode_cbRows.pick_eq_build,
    ← byOpcode_edRows.pick_eq_build, ← byOpcode_ddRows.pick_eq_build, ← byOpcode_fdRows.pick_eq_build,
    ← byOpcode_ddcbRows.pick_eq_build, ← byOpcode_fdcbRows.pick_eq_build, space]
  simp only [toNat_beq, Nat.reduceLT, Bool.cond_decide]
  split_ifs <;> rfl

theorem decodeBytes_of_lookupBytes {bs : List Byte} {i : Instr} (h : lookupBytes bs = some i) :
    decodeBytes bs = .ok i := by
  unfold lookupBytes at h
  split at h
  next b0 b1 b2 b3 _ => exact decode_eq_ok.2 (lookup_eq_pick b0 b1 b2 b3 ▸ h)
  next => cases h

/-- The encoding of an instruction, whatever follows it, leads to the row that builds it. The cases are by the
operands that stand in the opcode byte; the other operands stay arbitrary. -/
theorem lookup_encode {i : Instr} (h : i.WellFormed) (x y z : Byte) :
    lookupBytes (encode i ++ [x, y, z]) = some i := by
  cases i
  case ldRR r q =>
    cases r <;> cases q <;> rfl
  case ldRN r _ | ldRIdxIx r _ | ldRIdxIy r _ | ldRIndHl r | ldIndHlR r | addAR r | adcAR r | subR r | sbcAR r
      | andR r | xorR r | orR r | cpR r | incR r | decR r | rlcR r | rrcR r | rlR r | rrR r | slaR r | sraR r
      | sllR r | srlR r | inRPortC r | outPortCR r | ldIdxIxR _ r | rlcIdxIxR _ r | rrcIdxIxR _ r
      | rlIdxIxR _ r | rrIdxIxR _ r | slaIdxIxR _ r | sraIdxIxR _ r | sllIdxIxR _ r | srlIdxIxR _ r
      | ldIdxIyR _ r | rlcIdxIyR _ r | rrcIdxIyR _ r | rlIdxIyR _ r | rrIdxIyR _ r | slaIdxIyR _ r
      | sraIdxIyR _ r | sllIdxIyR _ r | srlIdxIyR _ r =>
    cases r <;> rfl
  case pushQq p | popQq p | addHlSs p | adcHlSs p | sbcHlSs p | incSs p | decSs p | addIxPp p | addIyRr p =>
    cases p <;> rfl
  case retCc cc =>
    cases cc <;> rfl
  case bitBIndHl b | setBIndHl b | resBIndHl b | rstP b | bitBIdxIx b _ | setBIdxIx b _ | resBIdxIx b _
      | bitBIdxIy b _ | setBIdxIy b _ | resBIdxIy b _ =>
    cases b using bitVec3_cases <;> rfl
  case bitBR b r | setBR b r | resBR b r | bitBIdxIxMirror b _ r | setBIdxIxR b _ r | resBIdxIxR b _ r
      | bitBIdxIyMirror b _ r | setBIdxIyR b _ r | resBIdxIyR b _ r =>
    cases b using bitVec3_cases <;> cases r <;> rfl
  case ldAIndNn nn | ldIndNnA nn | ldHlIndNn nn | ldIndNnHl nn | jpNn nn | callNn nn | ldIxNn nn
      | ldIxIndNn nn | ldIndNnIx nn | ldIyNn nn | ldIyIndNn nn | ldIndNnIy nn =>
    cases nn using pair_cases
    simp only [encode, hi_pair, lo_pair]
    rfl
  case ldDdNn p nn | ldDdIndNn p nn | ldIndNnDd nn p =>
    cases nn using pair_cases
    simp only [encode, hi_pair, lo_pair]
    cases p <;> rfl
  case jpCcNn cc nn | callCcNn cc nn =>
    cases nn using pair_cases
    simp only [encode, hi_pair, lo_pair]
    cases cc <;> rfl
  case ldPPIx r q | ldPPIy r q =>
    revert h
    cases r <;> cases q <;> intro h <;> cases h <;> rfl
  all_goals rfl

/-- Settles O1: the row of each instruction is found by evaluating `lookup` on its encoding. -/
theorem decodeOfEncodeIsInstruction : Obligations.DecodeOfEncodeIsInstruction := by
  unfold Obligations.DecodeOfEncodeIsInstruction
  exact fun i hi x y z => decodeBytes_of_lookupBytes (lookup_encode hi x y z)

end Sys2Proof
end

section
/-! PROOFS. The opcodes that are no instruction (R95), and the rows of a space are disjoint (R81). -/

namespace Sys2Proof

open Machine

theorem not_indexFaults_cb : ¬ Claim.indexFaults 0xCB#8 := by
  unfold Claim.indexFaults; decide

/-- Decoding fails where no row of the space claims the opcode byte; only ED, DD and FD have such opcodes. -/
theorem decode_eq_error_iff (b0 b1 b2 b3 : Byte) : (∃ r, decode b0 b1 b2 b3 = .error r) ↔
    (b0 = 0xED#8 ∧ Claim.edFaults b1) ∨ ((b0 = 0xDD#8 ∨ b0 = 0xFD#8) ∧ Claim.indexFaults b1) := by
  rw [exists_decode_eq_error, toOption_decode]
  unfold space
  split_ifs with hcb hed hdd h1 hfd h1
  · rw [claimed_cbRows.pick_eq_none byOpcode_cbRows]
    simp [hcb]
  · rw [claimed_edRows.pick_eq_none byOpcode_edRows]
    simp [hed]
  · rw [claimed_ddcbRows.pick_eq_none byOpcode_ddcbRows]
    simp [hdd, h1, not_indexFaults_cb]
  · rw [claimed_ddRows.pick_eq_none byOpcode_ddRows]
    simp [hdd, h1]
  · rw [claimed_fdcbRows.pick_eq_none byOpcode_fdcbRows]
    simp [hfd, h1, not_indexFaults_cb]
  · rw [claimed_fdRows.pick_eq_none byOpcode_fdRows]
    simp [hfd, h1]
  · rw [claimed_mainRows.pick_eq_none byOpcode_mainRows]
    simp [hcb, hed, hdd, hfd]

/-- R95 lists 198 opcodes for ED, and 170 for each of DD and FD. -/
theorem countP_edFaults {p : Nat → Bool} (hp : ∀ n, p n = true ↔ Claim.edFaults (BitVec.ofNat 8 n)) :
    (List.range 256).countP p = 198 := by
  unfold Claim.edFaults at hp
  have e : p = fun n => decide _ :=
    funext fun n => (Bool.decide_coe (p n)).symm.trans (decide_eq_decide.2 (hp n))
  rw [e]
  decide +kernel

theorem countP_indexFaults {p : Nat → Bool}
    (hp : ∀ n, p n = true ↔ Claim.indexFaults (BitVec.ofNat 8 n)) : (List.range 256).countP p = 170 := by
  unfold Claim.indexFaults at hp
  have e : p = fun n => decide _ :=
    funext fun n => (Bool.decide_coe (p n)).symm.trans (decide_eq_decide.2 (hp n))
  rw [e]
  decide +kernel

theorem isNone_toOption_decode (b0 b1 b2 b3 : Byte) : (decode b0 b1 b2 b3).toOption.isNone = true ↔
    (b0 = 0xED#8 ∧ Claim.edFaults b1) ∨ ((b0 = 0xDD#8 ∨ b0 = 0xFD#8) ∧ Claim.indexFaults b1) := by
  rw [Option.isNone_iff_eq_none, ← exists_decode_eq_error, decode_eq_error_iff]

/-- Settles O3: the opcodes no row claims are those R95 lists, and these are counted. -/
theorem decodeFaultsAreExactlyTheListed : Obligations.DecodeFaultsAreExactlyTheListed := by
  unfold Obligations.DecodeFaultsAreExactlyTheListed
  refine ⟨decode_eq_error_iff, countP_edFaults fun n => ?_, countP_indexFaults fun n => ?_,
    countP_indexFaults fun n => ?_⟩
  all_goals
    rw [isNone_toOption_decode]
    simp

/-- Settles O4: no opcode byte of a space is claimed by two of its rows. -/
theorem noBytesMatchTwoRows : Obligations.NoBytesMatchTwoRows := by
  unfold Obligations.NoBytesMatchTwoRows
  intro rows hrows op b1 b2 b3
  simp only [List.mem_cons, List.not_mem_nil, or_false] at hrows
  rcases hrows with rfl | rfl | rfl | rfl | rfl | rfl | rfl
  · exact claimed_mainRows.length_filter_takes_le byOpcode_mainRows op b1 b2 b3
  · exact claimed_cbRows.length_filter_takes_le byOpcode_cbRows op b1 b2 b3
  · exact claimed_edRows.length_filter_takes_le byOpcode_edRows op b1 b2 b3
  · exact claimed_ddRows.length_filter_takes_le byOpcode_ddRows op b1 b2 b3
  · exact claimed_fdRows.length_filter_takes_le byOpcode_fdRows op b1 b2 b3
  · exact claimed_ddcbRows.length_filter_takes_le byOpcode_ddcbRows op b1 b2 b3
  · exact claimed_fdcbRows.length_filter_takes_le byOpcode_fdcbRows op b1 b2 b3

end Sys2Proof
end

section
/-! PROOFS. Effective addresses and relative targets (R88, R89), condition codes (R85, R290), and words of the
spec (R90 to R94). -/

namespace Sys2Proof.Machine

open State

theorem toNat_sext16 (d : Byte) : ((sext16 d).toNat : Int) = d.toInt % 65536 := by
  have hs : (sext16 d).toNat = _ := BitVec.toNat_signExtend d
  have hd := d.isLt
  simp only [BitVec.toNat_setWidth, BitVec.msb_eq_decide, decide_eq_true_eq] at hs
  rw [BitVec.toInt_eq_toNat_cond]
  split_ifs at hs ⊢ <;> omega

/-- An address plus a signed displacement, modulo 2^16 (R88). -/
theorem toNat_add_sext16 (v : Word) (d : Byte) :
    ((v + sext16 d).toNat : Int) = (v.toNat + d.toInt) % 65536 := by
  have hd := toNat_sext16 d
  rw [BitVec.toNat_add]
  omega

/-- Settles O29: displacements are signed (R88, R89), by `toNat_add_sext16`; the conditions by their codes. -/
theorem effectiveAddressesAndConditions : Obligations.EffectiveAddressesAndConditions := by
  unfold Obligations.EffectiveAddressesAndConditions
  intro s d
  refine ⟨toNat_add_sext16 s.ix d, toNat_add_sext16 s.iy d, ?_, ?_, ?_, rfl⟩
  · have h := toNat_add_sext16 (s.npc 2) d
    have hp : (s.npc 2).toNat = (s.pc.toNat + 2) % 65536 := BitVec.toNat_add s.pc 2#16
    unfold relTarget
    omega
  · show s.pc + 2#16 + 0xFFFE#16 = s.pc
    bv_omega
  · show s.pc + 2#16 + 0#16 = s.pc + 2#16
    bv_omega

/-- Settles O5, by evaluation of the decoder on each word. -/
theorem specWordsDecode : Obligations.SpecWordsDecode := by
  unfold Obligations.SpecWordsDecode
  decide

end Sys2Proof.Machine
end

section
/-! PROOFS. Bits 5 and 3 of F (R127): each operation keeps them or overwrites them, and no operation but the
two that move the whole of F reads them. -/

namespace Sys2Proof.Machine

open Claim

/-- The two states differ at most in bits 5 and 3 of F. -/
def AgreeButXY (u t : State) : Prop := withXY u false false = withXY t false false

theorem AgreeButXY.withXY_eq {u t : State} (h : AgreeButXY u t) : withXY u t.main.f.y t.main.f.x = t :=
  (congrArg (fun v : State => withXY v t.main.f.y t.main.f.x) h :)

namespace State

variable (s : State) (y x : Bool)

/-! ### What does not read the two bits -/

@[simp] theorem withXY_main_a : (withXY s y x).main.a = s.main.a := rfl
@[simp] theorem withXY_main_b : (withXY s y x).main.b = s.main.b := rfl
@[simp] theorem withXY_main_c : (withXY s y x).main.c = s.main.c := rfl
@[simp] theorem withXY_main_bc : (withXY s y x).main.bc = s.main.bc := rfl
@[simp] theorem withXY_main_de : (withXY s y x).main.de = s.main.de := rfl
@[simp] theorem withXY_main_hl : (withXY s y x).main.hl = s.main.hl := rfl
@[simp] theorem withXY_peek (a : Word) : (withXY s y x).peek a = s.peek a := rfl
@[simp] theorem withXY_eaIx (d : Byte) : (withXY s y x).eaIx d = s.eaIx d := rfl
@[simp] theorem withXY_eaIy (d : Byte) : (withXY s y x).eaIy d = s.eaIy d := rfl
@[simp] theorem withXY_portAnswer (p : Word) : (withXY s y x).portAnswer p = s.portAnswer p := rfl
@[simp] theorem withXY_getR8 (r : Reg8) : (withXY s y x).getR8 r = s.getR8 r := by cases r <;> rfl
@[simp] theorem withXY_getP8 (r : RegP) : (withXY s y x).getP8 r = s.getP8 r := by cases r <;> rfl
@[simp] theorem withXY_getQ8 (r : RegQ) : (withXY s y x).getQ8 r = s.getQ8 r := by cases r <;> rfl
@[simp] theorem withXY_getDd (p : PairDd) : (withXY s y x).getDd p = s.getDd p := by cases p <;> rfl
@[simp] theorem withXY_getPp (p : PairPp) : (withXY s y x).getPp p = s.getPp p := by cases p <;> rfl
@[simp] theorem withXY_getRr (p : PairRr) : (withXY s y x).getRr p = s.getRr p := by cases p <;> rfl
@[simp] theorem withXY_cond (k : Cond) : (withXY s y x).cond k = s.cond k := by cases k <;> rfl

/-! ### What keeps the two bits -/

@[simp] theorem withXY_record (e : BusAccess) : (withXY s y x).record e = withXY (s.record e) y x := rfl
@[simp] theorem withXY_memWrite (a : Word) (v : Byte) :
    (withXY s y x).memWrite a v = withXY (s.memWrite a v) y x := rfl
@[simp] theorem withXY_memWrite16 (a v : Word) :
    (withXY s y x).memWrite16 a v = withXY (s.memWrite16 a v) y x := rfl
@[simp] theorem withXY_push16 (v : Word) : (withXY s y x).push16 v = withXY (s.push16 v) y x := rfl
@[simp] theorem withXY_portWrite (p : Word) (v : Byte) :
    (withXY s y x).portWrite p v = withXY (s.portWrite p v) y x := rfl
/-- A port read, its pair taken apart. -/
@[simp] theorem withXY_answered (ps : List Byte) (es : List BusAccess) (n : Nat) :
    { withXY s y x with portIn := ps, bus := es, draws := n } =
      withXY { s with portIn := ps, bus := es, draws := n } y x := rfl
@[simp] theorem withXY_setA (v : Byte) : (withXY s y x).setA v = withXY (s.setA v) y x := rfl
@[simp] theorem withXY_setB (v : Byte) : (withXY s y x).setB v = withXY (s.setB v) y x := rfl
@[simp] theorem withXY_setDe (v : Word) : (withXY s y x).setDe v = withXY (s.setDe v) y x := rfl
@[simp] theorem withXY_setHl (v : Word) : (withXY s y x).setHl v = withXY (s.setHl v) y x := rfl
@[simp] theorem withXY_setIx (v : Word) : (withXY s y x).setIx v = withXY (s.setIx v) y x := rfl
@[simp] theorem withXY_setIy (v : Word) : (withXY s y x).setIy v = withXY (s.setIy v) y x := rfl
@[simp] theorem withXY_setSp (v : Word) : (withXY s y x).setSp v = withXY (s.setSp v) y x := rfl
@[simp] theorem withXY_setR8 (r : Reg8) (v : Byte) :
    (withXY s y x).setR8 r v = withXY (s.setR8 r v) y x := by cases r <;> rfl
@[simp] theorem withXY_setP8 (r : RegP) (v : Byte) :
    (withXY s y x).setP8 r v = withXY (s.setP8 r v) y x := by cases r <;> rfl
@[simp] theorem withXY_setQ8 (r : RegQ) (v : Byte) :
    (withXY s y x).setQ8 r v = withXY (s.setQ8 r v) y x := by cases r <;> rfl
@[simp] theorem withXY_setDd (p : PairDd) (v : Word) :
    (withXY s y x).setDd p v = withXY (s.setDd p v) y x := by cases p <;> rfl
@[simp] theorem withXY_jump (a : Word) (n : Nat) : (withXY s y x).jump a n = withXY (s.jump a n) y x := rfl
@[simp] theorem withXY_finish (len n : Nat) :
    (withXY s y x).finish len n = withXY (s.finish len n) y x := rfl
@[simp] theorem withXY_call (len : Nat) (a : Word) (n : Nat) :
    (withXY s y x).call len a n = withXY (s.call len a n) y x := rfl
@[simp] theorem withXY_ret (n : Nat) : (withXY s y x).ret n = withXY (s.ret n) y x := rfl
@[simp] theorem withXY_reti (n : Nat) : (withXY s y x).reti n = withXY (s.reti n) y x := by
  rw [reti_eq, reti_eq]; rfl
@[simp] theorem withXY_jumpRelIf (b : Bool) (e : Byte) (k n : Nat) :
    (withXY s y x).jumpRelIf b e k n = withXY (s.jumpRelIf b e k n) y x := by cases b <;> rfl
@[simp] theorem withXY_ite (c : Prop) [Decidable c] (t u : State) :
    (if c then withXY t y x else withXY u y x) = withXY (if c then t else u) y x :=
  (apply_ite (withXY · y x) c t u).symm

/-! ### What overwrites the two bits -/

@[simp] theorem withXY_putFlags (f : Flags) : (withXY s y x).putFlags f = s.putFlags f := rfl
@[simp] theorem withXY_acc (op : AccOp) (v : Byte) : (withXY s y x).acc op v = s.acc op v := by
  cases op <;> rfl
@[simp] theorem withXY_addHl (v : Word) : (withXY s y x).addHl v = s.addHl v := rfl
@[simp] theorem withXY_incMem (a : Word) : (withXY s y x).incMem a = s.incMem a := rfl
@[simp] theorem withXY_decMem (a : Word) : (withXY s y x).decMem a = s.decMem a := rfl
@[simp] theorem withXY_blockTransfer (k : Word) : (withXY s y x).blockTransfer k = s.blockTransfer k := rfl
@[simp] theorem withXY_blockSearch (k : Word) : (withXY s y x).blockSearch k = s.blockSearch k := rfl
@[simp] theorem withXY_blockIoRepeat (f : Flags) : (withXY s y x).blockIoRepeat f = s.blockIoRepeat f := by
  rw [blockIoRepeat_eq, blockIoRepeat_eq]; rfl
@[simp] theorem blockIoRepeat_blockIoFlags_withXY (k : Nat) (v b : Byte) (t : State) :
    s.blockIoRepeat (blockIoFlags k v b (withXY t y x).main.f) =
      s.blockIoRepeat (blockIoFlags k v b t.main.f) := by
  rw [blockIoRepeat_eq, blockIoRepeat_eq]; rfl

end State

open State

/-- From states that agree but for bits 5 and 3 of F an instruction goes to states that agree so. The
exceptions are the two that move F as a byte to memory or to the shadow set (R17, R192). -/
theorem exec_withXY {i : Instr} {s t : State} (y x : Bool) (hpush : i ≠ .pushQq .af) (hex : i ≠ .exAfAf)
    (h : exec i s = .next t) : ∃ u, exec i (withXY s y x) = .next u ∧ AgreeButXY u t := by
  cases i
  case exAfAf => exact absurd rfl hex
  case pushQq p =>
    cases p
    case af => exact absurd rfl hpush
    all_goals cases h; exact ⟨_, rfl, rfl⟩
  case popQq p => cases h; cases p <;> exact ⟨_, rfl, rfl⟩
  case halt =>
    obtain ⟨hs, e⟩ | ⟨hs, e⟩ := exec_halt_cases s <;> cases h.symm.trans e
    · exact ⟨_, if_pos hs, rfl⟩
    · exact ⟨_, if_neg hs, rfl⟩
  -- By the rules above the two runs reach one state, but for bits 5 and 3 of the flags given to `putFlags`,
  -- which it overwrites.
  all_goals
    cases h
    refine ⟨_, rfl, ?_⟩
    simp -failIfUnchanged
    exact rfl

/-- Settles O15: `exec_withXY`, with the two bits put back. -/
theorem unusedFlagBitsAreNotRead : Obligations.UnusedFlagBitsAreNotRead := by
  unfold Obligations.UnusedFlagBitsAreNotRead
  intro i s t y x hpush hex h
  obtain ⟨u, hu, ha⟩ := exec_withXY y x hpush hex h
  exact ⟨u, hu, ha.withXY_eq⟩

end Sys2Proof.Machine
end

section
/-! PROOFS. The ALU's sums and differences (R113, R114, R119 to R121) and the order they decide
(R116). -/

namespace Sys2Proof.Machine

/-! ### Words as numbers, signed and unsigned -/

theorem msb_eq_getLsbD_7 (v : Byte) : v.msb = v.getLsbD 7 := BitVec.msb_eq_getLsbD_last v

theorem msb_eq_getLsbD_15 (v : Word) : v.msb = v.getLsbD 15 := BitVec.msb_eq_getLsbD_last v

theorem getLsbD_7_eq_decide (v : Byte) : v.getLsbD 7 = decide (128 ≤ v.toNat) :=
  (msb_eq_getLsbD_7 v).symm.trans v.msb_eq_decide

theorem toInt_eq_ite (v : Byte) : v.toInt = if 128 ≤ v.toNat then (v.toNat : Int) - 256 else v.toNat := by
  simp [BitVec.toInt_eq_msb_cond, BitVec.msb_eq_decide]

/-- A difference modulo 2^w. -/
theorem toNat_sub_eq_emod {w : Nat} (a b : BitVec w) :
    ((a - b).toNat : Int) = ((a.toNat : Int) - b.toNat) % (2 ^ w : Nat) := by
  have hb := b.isLt.le
  rw [BitVec.toNat_sub, Int.natCast_emod, Nat.cast_add, Nat.cast_sub hb, sub_add_eq_add_sub,
    add_sub_assoc, Int.add_emod_left]

/-- A difference with borrow, modulo 2^w. -/
theorem toNat_sub_borrow {w : Nat} (hw : 0 < w) (a b : BitVec w) (c : Bool) :
    ((a - b - BitVec.ofNat w c.toNat).toNat : Int) =
      ((a.toNat : Int) - b.toNat - c.toNat) % (2 ^ w : Nat) := by
  have hc : c.toNat < 2 ^ w := c.toNat_lt.trans_le (Nat.pow_le_pow_right two_pos hw)
  rw [toNat_sub_eq_emod, toNat_sub_eq_emod, Int.emod_sub_emod, BitVec.toNat_ofNat, Nat.mod_eq_of_lt hc]

/-! ### Signed overflow: by the signs, by the bit formula, by the range -/

theorem overflow_add_eq_bit (a b r : Byte) : (a.getLsbD 7 == b.getLsbD 7 && r.getLsbD 7 != a.getLsbD 7) =
    ((a ^^^ ~~~b) &&& (a ^^^ r)).getLsbD 7 := by
  simp only [BitVec.getLsbD_and, BitVec.getLsbD_xor, BitVec.getLsbD_not]
  cases a.getLsbD 7 <;> cases b.getLsbD 7 <;> cases r.getLsbD 7 <;> rfl

theorem overflow_sub_eq_bit (a b r : Byte) : (a.getLsbD 7 != b.getLsbD 7 && r.getLsbD 7 != a.getLsbD 7) =
    ((a ^^^ b) &&& (a ^^^ r)).getLsbD 7 := by
  simp only [BitVec.getLsbD_and, BitVec.getLsbD_xor]
  cases a.getLsbD 7 <;> cases b.getLsbD 7 <;> cases r.getLsbD 7 <;> rfl

theorem overflow_add_eq_range {a b r : Byte} {c : Bool} (hr : r.toNat = (a.toNat + b.toNat + c.toNat) % 256) :
    (a.getLsbD 7 == b.getLsbD 7 && r.getLsbD 7 != a.getLsbD 7) =
      decide (¬ (-128 ≤ a.toInt + b.toInt + c.toNat ∧ a.toInt + b.toInt + c.toNat ≤ 127)) := by
  have ha := a.isLt
  have hb := b.isLt
  have hc := c.toNat_le
  rw [Bool.eq_iff_iff]
  simp only [getLsbD_7_eq_decide, toInt_eq_ite, Bool.and_eq_true, beq_iff_eq, bne_iff_ne, ne_eq,
    decide_eq_decide, decide_eq_true_eq]
  split_ifs <;> omega

theorem overflow_sub_eq_range {a b r : Byte} {c : Bool}
    (hr : (r.toNat : Int) = ((a.toNat : Int) - b.toNat - c.toNat) % 256) :
    (a.getLsbD 7 != b.getLsbD 7 && r.getLsbD 7 != a.getLsbD 7) =
      decide (¬ (-128 ≤ a.toInt - b.toInt - c.toNat ∧ a.toInt - b.toInt - c.toNat ≤ 127)) := by
  have ha := a.isLt
  have hb := b.isLt
  have hc := c.toNat_le
  rw [Bool.eq_iff_iff]
  simp only [getLsbD_7_eq_decide, toInt_eq_ite, Bool.and_eq_true, bne_iff_ne, ne_eq,
    decide_eq_decide, decide_eq_true_eq]
  split_ifs <;> omega

/-! ### `add8` and `sub8` -/

section

variable (a b : Byte) (cin : Bool) (f : Flags)

theorem add8_toNat : (add8 a b cin f).1.toNat = (a.toNat + b.toNat + cin.toNat) % 256 :=
  BitVec.toNat_ofNat _ _

theorem add8_pv : (add8 a b cin f).2.pv =
    (a.getLsbD 7 == b.getLsbD 7 && (add8 a b cin f).1.getLsbD 7 != a.getLsbD 7) := by
  simp only [add8, msb_eq_getLsbD_7]

theorem sub8_toNat :
    ((sub8 a b cin f).1.toNat : Int) = ((a.toNat : Int) - b.toNat - cin.toNat) % 256 :=
  toNat_sub_borrow (by decide) a b cin

theorem sub8_s : (sub8 a b cin f).2.s = (sub8 a b cin f).1.getLsbD 7 := msb_eq_getLsbD_7 _

theorem sub8_pv : (sub8 a b cin f).2.pv =
    (a.getLsbD 7 != b.getLsbD 7 && (sub8 a b cin f).1.getLsbD 7 != a.getLsbD 7) := by
  simp only [sub8, msb_eq_getLsbD_7]

/-! Without borrow the flags order the operands (R116). -/

theorem sub8_z_iff : (sub8 a b false f).2.z = true ↔ a = b := by
  simp [sub8, BitVec.sub_eq_iff_eq_add]

theorem sub8_c_iff : (sub8 a b false f).2.c = true ↔ a.toNat < b.toNat := by
  simp [sub8]

/-- S is the sign of the difference, but where it overflows. -/
theorem sub8_s_ne_pv_iff : (sub8 a b false f).2.s ≠ (sub8 a b false f).2.pv ↔ a.toInt < b.toInt := by
  have hres := sub8_toNat a b false f
  have ha := a.isLt
  have hb := b.isLt
  rw [sub8_s, sub8_pv, overflow_sub_eq_range hres, getLsbD_7_eq_decide, ne_eq, decide_eq_decide]
  simp only [Bool.toNat_false, toInt_eq_ite] at hres ⊢
  split_ifs <;> omega

end

/-- Settles O30: the results modulo 256, and overflow by the signs, by the bit formula and by the range; the
other flags are as the functions compute them. -/
theorem addSub8Rules : Obligations.AddSub8Rules := by
  unfold Obligations.AddSub8Rules
  intro a b cin f
  refine ⟨?_, ?_, rfl, rfl, rfl, rfl, rfl⟩
  · rintro p rfl
    have hres := add8_toNat a b cin f
    have hpv := add8_pv a b cin f
    exact ⟨hres, msb_eq_getLsbD_7 _, beq_eq_decide _ _, rfl, hpv, hpv.trans (overflow_add_eq_bit a b _),
      hpv.trans (overflow_add_eq_range hres), rfl, rfl⟩
  · rintro p rfl
    have hres := sub8_toNat a b cin f
    have hpv := sub8_pv a b cin f
    exact ⟨hres, sub8_s a b cin f, beq_eq_decide _ _, decide_eq_decide.2 (by omega), hpv,
      hpv.trans (overflow_sub_eq_bit a b _), hpv.trans (overflow_sub_eq_range hres), rfl,
      decide_eq_decide.2 (by omega)⟩

/-- Settles O32: the results modulo 2^16, the flags as the functions give them. -/
theorem arithmetic16Rules : Obligations.Arithmetic16Rules := by
  unfold Obligations.Arithmetic16Rules
  intro a b f
  refine ⟨?_, ?_, ?_⟩
  · rintro p rfl
    exact ⟨BitVec.toNat_add a b, rfl⟩
  · rintro p rfl
    refine ⟨BitVec.toNat_ofNat _ _, ?_⟩
    simp only [adc16, msb_eq_getLsbD_15, beq_eq_decide, BitVec.ofNat_eq_ofNat]
  · rintro p rfl
    refine ⟨toNat_sub_borrow (by decide) a b f.c, ?_⟩
    have hh : a.toNat % 4096 < b.toNat % 4096 + f.c.toNat ↔
        ((a.toNat % 4096 : Nat) : Int) - (b.toNat % 4096 : Nat) - f.c.toNat < 0 := by omega
    have hc : a.toNat < b.toNat + f.c.toNat ↔ (a.toNat : Int) - b.toNat - f.c.toNat < 0 := by omega
    simp only [sbc16, msb_eq_getLsbD_15, beq_eq_decide, BitVec.ofNat_eq_ofNat, hh, hc]

/-- Settles O34: CP has the flags of `sub8` without borrow. -/
theorem compareOrdersOperands : Obligations.CompareOrdersOperands := by
  unfold Obligations.CompareOrdersOperands
  intro s v
  exact ⟨_, rfl, rfl, sub8_z_iff _ _ s.main.f, sub8_c_iff _ _ s.main.f, sub8_s_ne_pv_iff _ _ s.main.f⟩

end Sys2Proof.Machine
end

section
/-! PROOFS. Parity, the logical operations, INC and DEC (R112, R115, R117, R118), and the rotates, shifts and
bit test bit by bit (R123 to R126). -/

namespace Sys2Proof.Machine

/-! ### Parity, INC and DEC -/

theorem countP_getLsbD_eq_ones8 (v : Byte) : ((List.range 8).countP fun k => v.getLsbD k) = ones8 v := by
  simp only [show List.range 8 = [0, 1, 2, 3, 4, 5, 6, 7] from rfl, List.countP_cons, List.countP_nil, ones8,
    Bool.toNat, Bool.cond_eq_ite]
  omega

theorem inc8_toNat (v : Byte) (f : Flags) : (inc8 v f).1.toNat = (v.toNat + 1) % 256 := BitVec.toNat_add v 1

theorem dec8_toNat (v : Byte) (f : Flags) : ((dec8 v f).1.toNat : Int) = ((v.toNat : Int) - 1) % 256 :=
  toNat_sub_eq_emod v 1

/-- Settles O31: parity counts the bits, results are modulo 256, the flags as the functions compute them. -/
theorem logicIncDecRules : Obligations.LogicIncDecRules := by
  unfold Obligations.LogicIncDecRules
  intro a b f
  refine ⟨?_, ?_, ?_, ?_⟩
  · rw [countP_getLsbD_eq_ones8, parity8, beq_iff_eq]
  · intro op res h hop
    simp only [List.mem_cons, Prod.mk.injEq, List.not_mem_nil, or_false] at hop
    rcases hop with ⟨rfl, rfl, rfl⟩ | ⟨rfl, rfl, rfl⟩ | ⟨rfl, rfl, rfl⟩ <;>
      simp [acc8, logicFlags, msb_eq_getLsbD_7, beq_eq_decide]
  · rintro p rfl
    exact ⟨inc8_toNat a f, by simp only [inc8, msb_eq_getLsbD_7, beq_eq_decide, BitVec.ofNat_eq_ofNat]⟩
  · rintro p rfl
    exact ⟨dec8_toNat a f, by simp only [dec8, msb_eq_getLsbD_7, beq_eq_decide, BitVec.ofNat_eq_ofNat]⟩

/-! ### The two shapes of a rotate or shift -/

theorem getLsbD_bit0 (b : Bool) (k : Nat) : (bit0 b).getLsbD k = (decide (k = 0) && b) := by
  cases b <;> simp [bit0]

/-- Shifted left, with `b` moved in at the low end. -/
def shiftedLeft (v : Byte) (b : Bool) : Byte := (v <<< 1) ||| bit0 b

/-- Shifted right, with `b` moved in at the high end. -/
def shiftedRight (v : Byte) (b : Bool) : Byte := (v >>> 1) ||| (bit0 b <<< 7)

theorem getLsbD_shiftedLeft_zero (v : Byte) (b : Bool) : (shiftedLeft v b).getLsbD 0 = b := by
  simp only [shiftedLeft, BitVec.getLsbD_or, BitVec.getLsbD_shiftLeft, getLsbD_bit0]
  simp

theorem getLsbD_shiftedLeft_succ (v : Byte) (b : Bool) {k : Nat} (hk : k < 7) :
    (shiftedLeft v b).getLsbD (k + 1) = v.getLsbD k := by
  simp only [shiftedLeft, BitVec.getLsbD_or, BitVec.getLsbD_shiftLeft, getLsbD_bit0]
  simp [show k + 1 < 8 by omega]

theorem getLsbD_shiftedRight_seven (v : Byte) (b : Bool) : (shiftedRight v b).getLsbD 7 = b := by
  simp only [shiftedRight, BitVec.getLsbD_or, BitVec.getLsbD_ushiftRight, BitVec.getLsbD_shiftLeft,
    getLsbD_bit0]
  simp

theorem getLsbD_shiftedRight (v : Byte) (b : Bool) {k : Nat} (hk : k < 7) :
    (shiftedRight v b).getLsbD k = v.getLsbD (k + 1) := by
  simp [shiftedRight, hk, Nat.add_comm]

/-- The bit each operation moves in (R123). -/
def RotOp.bitIn (v : Byte) (cin : Bool) : RotOp → Bool
  | .rlc => v.getLsbD 7
  | .rrc => v.getLsbD 0
  | .rl => cin
  | .rr => cin
  | .sla => false
  | .sra => v.getLsbD 7
  | .sll => true
  | .srl => false

/-- Four operations shift to the left, and bit 7 goes out. -/
theorem rot_left {op : RotOp} (h : op ∈ [.rlc, .rl, .sla, .sll]) (v : Byte) (cin : Bool) :
    rot op v cin = (shiftedLeft v (op.bitIn v cin), v.getLsbD 7) := by
  simp only [List.mem_cons, List.not_mem_nil, or_false] at h
  rcases h with rfl | rfl | rfl | rfl <;> simp [rot, shiftedLeft, RotOp.bitIn, msb_eq_getLsbD_7, bit0]

/-- What SRA moves in at the high end. -/
theorem and_80 (v : Byte) : v &&& 0x80#8 = bit0 (v.getLsbD 7) <<< 7 := by
  revert v; decide

/-- The other four shift to the right, and bit 0 goes out. -/
theorem rot_right {op : RotOp} (h : op ∈ [.rrc, .rr, .sra, .srl]) (v : Byte) (cin : Bool) :
    rot op v cin = (shiftedRight v (op.bitIn v cin), v.getLsbD 0) := by
  simp only [List.mem_cons, List.not_mem_nil, or_false] at h
  rcases h with rfl | rfl | rfl | rfl <;> simp [rot, shiftedRight, RotOp.bitIn, and_80, bit0]

theorem rot_left_getLsbD_zero {op : RotOp} (h : op ∈ [.rlc, .rl, .sla, .sll]) (v : Byte) (cin : Bool) :
    (rot op v cin).1.getLsbD 0 = op.bitIn v cin := by
  rw [rot_left h, getLsbD_shiftedLeft_zero]

theorem rot_right_getLsbD_seven {op : RotOp} (h : op ∈ [.rrc, .rr, .sra, .srl]) (v : Byte) (cin : Bool) :
    (rot op v cin).1.getLsbD 7 = op.bitIn v cin := by
  rw [rot_right h, getLsbD_shiftedRight_seven]

/-- Settles O33: each operation shifts to one side, by `rot_left` and `rot_right`; the flags are as the
functions compute them. -/
theorem rotateAndBitTestRules : Obligations.RotateAndBitTestRules := by
  unfold Obligations.RotateAndBitTestRules
  intro v cin f
  refine ⟨fun k hk op hop => ?_, fun k hk op hop => ?_,
    rot_left_getLsbD_zero (op := .rlc) (by decide) v cin,
    rot_left_getLsbD_zero (op := .rl) (by decide) v cin,
    rot_left_getLsbD_zero (op := .sla) (by decide) v cin,
    rot_left_getLsbD_zero (op := .sll) (by decide) v cin,
    rot_right_getLsbD_seven (op := .rrc) (by decide) v cin,
    rot_right_getLsbD_seven (op := .rr) (by decide) v cin,
    rot_right_getLsbD_seven (op := .sra) (by decide) v cin,
    rot_right_getLsbD_seven (op := .srl) (by decide) v cin,
    fun op => ⟨⟨rfl, ?_⟩, rfl, rfl⟩, fun b => ?_⟩
  · rw [rot_left hop]
    exact ⟨getLsbD_shiftedLeft_succ v _ hk, rfl⟩
  · rw [rot_right hop]
    exact ⟨getLsbD_shiftedRight v _ hk, rfl⟩
  · simp only [rot8, msb_eq_getLsbD_7, beq_eq_decide, BitVec.ofNat_eq_ofNat]
  · simp only [bittest, beq_eq_decide]

end Sys2Proof.Machine
end

section
/-! PROOFS. The forms that compute a register and the flags (R124, R125, R261 to R273). -/

namespace Sys2Proof.Machine

open State Claim

/-- An instruction that puts a computed value in A, with computed flags. -/
theorem flagged_of_setA {i : Instr} {bytes : List Byte} {s : State} {v : Byte} {f : Flags} {len n : Nat}
    (hb : encode i = bytes) (he : exec i s = .next (((s.setA v).putFlags f).finish len n)) :
    flagged i bytes s f { pastDrawn s len n [] with main := { s.main with a := v } } :=
  ⟨hb, _, he, withAnyXY_six f _, rfl⟩

/-- An instruction that puts a computed value in a register, with computed flags. -/
theorem flagged_of_setR8 {i : Instr} {bytes : List Byte} {s : State} {r : Reg8} {v : Byte} {f : Flags}
    {len n : Nat} (hb : encode i = bytes)
    (he : exec i s = .next (((s.setR8 r v).putFlags f).finish len n)) :
    flagged i bytes s f ((pastDrawn s len n []).setR8 r v) :=
  ⟨hb, _, he, withAnyXY_six f _, by cases r <;> rfl⟩

/-- Settles O52: RLCA, RLA, RRCA, RRA by `flagged_of_setA`, the register forms by `flagged_of_setR8`. -/
theorem rotateRegisterForms : Obligations.RotateRegisterForms := by
  unfold Obligations.RotateRegisterForms
  intro s r
  exact ⟨flagged_of_setA rfl rfl, flagged_of_setA rfl rfl, flagged_of_setA rfl rfl, flagged_of_setA rfl rfl,
    flagged_of_setR8 rfl rfl, flagged_of_setR8 rfl rfl, flagged_of_setR8 rfl rfl, flagged_of_setR8 rfl rfl,
    flagged_of_setR8 rfl rfl, flagged_of_setR8 rfl rfl, flagged_of_setR8 rfl rfl, flagged_of_setR8 rfl rfl⟩

end Sys2Proof.Machine
end

section
/-! PROOFS. The 8-bit loads (R141 to R160): what a load into a register, a store of a byte and a move between
A and a special register leave. -/

namespace Sys2Proof.Machine

open State Claim

/-! ### Loads and stores -/

/-- An instruction that issues the accesses `acc` and puts a value in a register. -/
theorem exact_of_setR8 {i : Instr} {bytes : List Byte} {s : State} {acc : List BusAccess} {r : Reg8}
    {v : Byte} {len n : Nat} (hb : encode i = bytes)
    (he : exec i s = .next ((setR8 { s with bus := acc.reverse ++ s.bus } r v).finish len n)) :
    exact i bytes s ((past s len n acc).setR8 r v) :=
  ⟨hb, he.trans (by cases r <;> rfl)⟩

/-- An instruction that puts a value in a register of the DD space. -/
theorem exact_of_setP8 {i : Instr} {bytes : List Byte} {s : State} {r : RegP} {v : Byte} {len n : Nat}
    (hb : encode i = bytes) (he : exec i s = .next ((s.setP8 r v).finish len n)) :
    exact i bytes s ((past s len n []).setP8 r v) :=
  ⟨hb, he.trans (by cases r <;> rfl)⟩

/-- An instruction that puts a value in a register of the FD space. -/
theorem exact_of_setQ8 {i : Instr} {bytes : List Byte} {s : State} {r : RegQ} {v : Byte} {len n : Nat}
    (hb : encode i = bytes) (he : exec i s = .next ((s.setQ8 r v).finish len n)) :
    exact i bytes s ((past s len n []).setQ8 r v) :=
  ⟨hb, he.trans (by cases r <;> rfl)⟩

/-- An instruction that stores a byte and changes nothing else but PC (R52). -/
theorem stored_of_memWrite {i : Instr} {bytes : List Byte} {s : State} {a : Word} {v : Byte} {len n : Nat}
    (hb : encode i = bytes) (he : exec i s = .next ((s.memWrite a v).finish len n)) :
    stored i bytes s (past s len n [.memWrite a v]) a v :=
  ⟨hb, _, he, s.peek_memWrite_same a v, fun x hx => (s.peek_memWrite a x v).trans (if_neg hx), rfl⟩

/-- Settles O36: the registers by `exact_of_setR8`, `exact_of_setP8` and `exact_of_setQ8`; an index half named
by the opcode is one update of IX or IY. -/
theorem loadRegisterForms : Obligations.LoadRegisterForms := by
  unfold Obligations.LoadRegisterForms
  intro s r q p p' q8 q8' n d nn
  exact ⟨exact_of_setR8 rfl rfl, exact_of_setR8 rfl rfl, exact_of_setR8 rfl rfl, exact_of_setR8 rfl rfl,
    exact_of_setR8 rfl rfl, exact_of_setR8 rfl rfl, exact_of_setR8 rfl rfl, exact_of_setR8 rfl rfl,
    exact_of_setP8 rfl rfl, exact_of_setQ8 rfl rfl, ⟨rfl, rfl⟩, ⟨rfl, rfl⟩, ⟨rfl, rfl⟩, ⟨rfl, rfl⟩⟩

/-- Settles O37: every form is one write, by `stored_of_memWrite`. -/
theorem storeByteForms : Obligations.StoreByteForms := by
  unfold Obligations.StoreByteForms
  intro s r n d nn
  exact ⟨stored_of_memWrite rfl rfl, stored_of_memWrite rfl rfl, stored_of_memWrite rfl rfl,
    stored_of_memWrite rfl rfl, stored_of_memWrite rfl rfl, stored_of_memWrite rfl rfl,
    stored_of_memWrite rfl rfl, stored_of_memWrite rfl rfl, stored_of_memWrite rfl rfl⟩

/-! ### I and R -/

/-- S and Z are the value's, PV is the bit given, H and N are clear, C is kept (R155, R156). -/
theorem moveFlags_eq (v : Byte) (pv : Bool) (f : Flags) :
    moveFlags v pv f =
      { f with s := v.getLsbD 7, z := decide (v = 0#8), h := false, pv := pv, n := false } := by
  simp only [moveFlags, msb_eq_getLsbD_7, beq_eq_decide, BitVec.ofNat_eq_ofNat]

/-- Settles O38: LD A,I and LD A,R put a value in A with the flags of `moveFlags`; LD I,A and LD R,A are one
update each. -/
theorem loadInterruptRefreshForms : Obligations.LoadInterruptRefreshForms := by
  unfold Obligations.LoadInterruptRefreshForms
  intro s
  simp only [← moveFlags_eq]
  exact ⟨flagged_of_setA rfl rfl, flagged_of_setA rfl rfl, ⟨rfl, rfl⟩, ⟨rfl, rfl⟩⟩

end Sys2Proof.Machine
end

section
/-! PROOFS. The 16-bit loads and stores (R171 to R180), and a word pushed and popped again (R69, R181,
R183). -/

namespace Sys2Proof.Machine

open State Claim

/-! ### Loads and stores of a word -/

/-- An instruction that issues the accesses `acc` and puts a word in a pair. -/
theorem exact_of_setDd {i : Instr} {bytes : List Byte} {s : State} {acc : List BusAccess} {p : PairDd}
    {v : Word} {len n : Nat} (hb : encode i = bytes)
    (he : exec i s = .next ((setDd { s with bus := acc.reverse ++ s.bus } p v).finish len n)) :
    exact i bytes s ((past s len n acc).setDd p v) :=
  ⟨hb, he.trans (by cases p <;> rfl)⟩

/-- An instruction that stores a word and changes nothing else but PC (R53). -/
theorem stored16_of_memWrite16 {i : Instr} {bytes : List Byte} {s : State} {a v : Word} {len n : Nat}
    (hb : encode i = bytes) (he : exec i s = .next ((s.memWrite16 a v).finish len n)) :
    stored16 i bytes s (past s len n [.memWrite a (lo v), .memWrite (a + 1) (hi v)]) a v := by
  have hne : a ≠ a + 1 := by bv_omega
  refine ⟨hb, _, he, ?_, ?_, fun x hx hx1 => ?_, rfl⟩
  · exact (s.peek_memWrite16 a a v).trans ((if_neg hne).trans (if_pos rfl))
  · exact (s.peek_memWrite16 a _ v).trans (if_pos rfl)
  · exact (s.peek_memWrite16 a x v).trans ((if_neg hx1).trans (if_neg hx))

/-- Settles O39: the pairs by `exact_of_setDd`, the stores by `stored16_of_memWrite16`; a load of IX, IY or SP
is one update. -/
theorem wordLoadStoreForms : Obligations.WordLoadStoreForms := by
  unfold Obligations.WordLoadStoreForms
  intro s p nn
  exact ⟨exact_of_setDd rfl rfl, ⟨rfl, rfl⟩, ⟨rfl, rfl⟩, exact_of_setDd rfl rfl, exact_of_setDd rfl rfl,
    ⟨rfl, rfl⟩, ⟨rfl, rfl⟩, ⟨rfl, rfl⟩, ⟨rfl, rfl⟩, ⟨rfl, rfl⟩, stored16_of_memWrite16 rfl rfl,
    stored16_of_memWrite16 rfl rfl, stored16_of_memWrite16 rfl rfl, stored16_of_memWrite16 rfl rfl⟩

/-! ### A push and the pop after it -/

namespace State

variable (s : State)

theorem setQq_finish (q : PairQq) (v : Word) (len n : Nat) :
    (s.setQq q v).finish len n = (s.finish len n).setQq q v := by
  cases q <;> rfl

/-- A pair is its two registers: writing it with what it holds changes nothing (R12, R16). -/
@[simp] theorem setQq_getQq (p : PairQq) : s.setQq p (s.getQq p) = s := by
  cases p <;> simp [setQq, getQq, setBc, setDe, setHl, setAf, Bank.setBc, Bank.setDe, Bank.setHl, Bank.setAf,
    Bank.bc, Bank.de, Bank.hl, Bank.af]

theorem setQq_main_congr {s t : State} (h : s.main = t.main) (q : PairQq) (v : Word) :
    (s.setQq q v).main = (t.setQq q v).main := by
  cases q <;> simp [setQq, h]

theorem pop16_eq : s.pop16 =
    (pair (s.peek (s.sp + 1)) (s.peek s.sp), { s with
      bus := .memRead (s.sp + 1) (s.peek (s.sp + 1)) :: .memRead s.sp (s.peek s.sp) :: s.bus
      sp := s.sp + 2 }) := rfl

/-- `s` past a push of `v` and the pop after it: SP is back, the bytes stay below it, and the two writes and
the two reads on the trace (R69). -/
def pushedPopped (v : Word) : State :=
  { s with
    mem := (s.push16 v).mem
    bus := [.memRead (s.sp - 1) (hi v), .memRead (s.sp - 2) (lo v), .memWrite (s.sp - 2) (lo v),
      .memWrite (s.sp - 1) (hi v)] ++ s.bus }

theorem pop16_push16 (v : Word) : (s.push16 v).pop16 = (v, s.pushedPopped v) := by
  have hsp1 : s.sp - 2 + 1 = s.sp - 1 := by bv_omega
  have hsp2 : s.sp - 2 + 2 = s.sp := by bv_omega
  have hne : s.sp - 1 ≠ s.sp - 2 := by bv_omega
  have hlo : (s.push16 v).peek (s.sp - 2) = lo v := (s.peek_push16 _ v).trans (if_pos rfl)
  have hhi : (s.push16 v).peek (s.sp - 1) = hi v :=
    (s.peek_push16 _ v).trans ((if_neg hne).trans (if_pos rfl))
  rw [pop16_eq, push16_sp, hsp1, hsp2, hlo, hhi, pair_hi_lo]
  rfl

end State

theorem exec_popQq (s : State) (q : PairQq) :
    exec (.popQq q) s = .next ((s.pop16.2.finish 1 10).setQq q s.pop16.1) :=
  congrArg _ (setQq_finish s.pop16.2 q s.pop16.1 1 10)

/-- `push16` commutes with `finish`, so the pop meets the pushed stack (R181, R183). -/
theorem exec_popQq_push16 (s : State) (v : Word) (q : PairQq) :
    exec (.popQq q) ((s.push16 v).finish 1 11) = .next (((s.pushedPopped v).finish 2 10).setQq q v) := by
  have hcomm : (s.push16 v).finish 1 11 = (s.finish 1 11).push16 v := rfl
  rw [exec_popQq, hcomm, pop16_push16]
  simp [pushedPopped, finish, jump, npc, BitVec.add_assoc]

/-- Settles O41: the pop finds the word pushed, by `exec_popQq_push16`; the frame of memory is the push's. -/
theorem pushThenPopRestores : Obligations.PushThenPopRestores := by
  unfold Obligations.PushThenPopRestores
  intro s p q
  refine ⟨_, _, rfl, exec_popQq_push16 s (s.getQq p) q, ?_, ?_, ?_, fun a h1 h2 => ?_⟩
  · rw [setQq_mem]
    rfl
  · rw [getQq_setQq, if_pos rfl]
  · rintro rfl
    have hm : ((s.pushedPopped (s.getQq q)).finish 2 10).main = s.main := rfl
    rw [setQq_main_congr hm, setQq_getQq]
  · have hm : (((s.pushedPopped (s.getQq p)).finish 2 10).setQq q (s.getQq p)).mem =
        (s.push16 (s.getQq p)).mem := setQq_mem ..
    exact (peek_congr hm a).trans ((s.peek_push16 a _).trans ((if_neg h2).trans (if_neg h1)))

end Sys2Proof.Machine
end

section
/-! PROOFS. The exchanges (R191 to R195). -/

namespace Sys2Proof.Machine

open State Claim

/-- An instruction that exchanges the word on top of the stack for `v`: SP and SP+1 hold `v` afterwards, and
every other byte is the old one (R194). -/
theorem stored16_of_exchangeTop {i : Instr} {bytes : List Byte} {s t u : State} {v : Word}
    (hb : encode i = bytes) (he : exec i s = .next u) (hmem : u.mem = (s.exchangeTop v).2.mem)
    (ht : u = { t with mem := u.mem }) : stored16 i bytes s t s.sp v := by
  have hpeek (x : Word) : u.peek x = if x = s.sp then lo v else if x = s.sp + 1 then hi v else s.peek x :=
    (peek_congr hmem x).trans (s.exchangeTop_peek v x)
  have hne : s.sp + 1 ≠ s.sp := by bv_omega
  refine ⟨hb, u, he, ?_, ?_, fun x hx hx1 => ?_, ht⟩
  · exact (hpeek s.sp).trans (if_pos rfl)
  · exact (hpeek (s.sp + 1)).trans ((if_neg hne).trans (if_pos rfl))
  · exact (hpeek x).trans ((if_neg hx).trans (if_neg hx1))

/-- H and L take the two bytes that were on top of the stack (R12, R194). -/
theorem exec_exIndSpHl (s : State) :
    exec .exIndSpHl s = .next (finish { (s.exchangeTop s.main.hl).2 with
      main := { s.main with h := s.peek (s.sp + 1), l := s.peek s.sp } } 1 19) := by
  have h : exec .exIndSpHl s =
      .next (((s.exchangeTop s.main.hl).2.setHl (s.exchangeTop s.main.hl).1).finish 1 19) := rfl
  rw [h, exchangeTop_eq, setHl, Bank.setHl, hi_pair, lo_pair]

/-- EX DE,HL swaps the four registers one by one (R12, R191). -/
theorem exec_exDeHl (s : State) :
    exec .exDeHl s = .next (finish { s with
      main := { s.main with d := s.main.h, e := s.main.l, h := s.main.d, l := s.main.e } } 1 4) := by
  have h : exec .exDeHl s = .next (((s.setDe s.main.hl).setHl s.main.de).finish 1 4) := rfl
  rw [h]
  simp only [setDe, setHl, Bank.setDe, Bank.setHl, Bank.hl, Bank.de, hi_pair, lo_pair]

/-- Settles O42: the register forms are one update each, the forms of the stack by
`stored16_of_exchangeTop`. -/
theorem exchangeForms : Obligations.ExchangeForms := by
  unfold Obligations.ExchangeForms
  intro s
  exact ⟨⟨rfl, exec_exDeHl s⟩, ⟨rfl, rfl⟩, ⟨rfl, rfl⟩,
    stored16_of_exchangeTop rfl (exec_exIndSpHl s) rfl rfl,
    stored16_of_exchangeTop rfl rfl rfl rfl, stored16_of_exchangeTop rfl rfl rfl rfl⟩

end Sys2Proof.Machine
end

section
/-! PROOFS. One iteration of the block transfers and the block searches (R196 to R203). -/

namespace Sys2Proof.Machine

open State Claim

/-- The end of an iteration by the condition `p` under which it is the last (R197, R201). -/
theorem State.repeatIf_eq_of_iff (s : State) {again : Bool} {p : Prop} [Decidable p]
    (h : again = false ↔ p) :
    s.repeatIf again = { s with
      pc := if p then s.pc + 2 else s.pc, returned := if p then 16 else 21 } := by
  obtain ⟨ha, e⟩ | ⟨ha, e⟩ := s.repeatIf_cases again
  · have hp : ¬p := fun hp => Bool.noConfusion (ha.symm.trans (h.2 hp))
    rw [e, if_neg hp, if_neg hp]
  · rw [e, if_pos (h.1 ha), if_pos (h.1 ha)]

/-- PV after a block instruction says whether the new count is not 0 (R196, R200). -/
theorem bne_zero_eq_decide (bc : Word) : (bc != 0) = decide (bc ≠ 0) := by
  rw [bne, beq_eq_decide, decide_not]

/-! ### Block transfer -/

/-- H and N are clear, PV says the new count is not 0, and S, Z and C are kept (R196). -/
theorem transferFlags_eq (bc : Word) (f : Flags) :
    transferFlags bc f = { f with h := false, n := false, pv := decide (bc ≠ 0) } := by
  rw [transferFlags, bne_zero_eq_decide]

/-- An instruction that moves one byte from HL to DE, steps both pointers by `k`, counts BC down, and
leaves PC at `p`. -/
theorem flaggedStored_of_blockTransfer {i : Instr} {bytes : List Byte} {s : State} {k p hl de : Word}
    {n : Nat} (hb : encode i = bytes)
    (he : exec i s = .next { s.blockTransfer k with pc := p, returned := n })
    (hhl : s.main.hl + k = hl) (hde : s.main.de + k = de) :
    flaggedStored i bytes s
      { s.main.f with h := false, n := false, pv := decide (s.main.bc - 1 ≠ 0) }
      { pastDrawn s 2 n [readOf s s.main.hl, .memWrite s.main.de (s.peek s.main.hl)] with
        main := { s.main with
                  h := hi hl, l := lo hl, d := hi de, e := lo de, b := hi (s.main.bc - 1),
                  c := lo (s.main.bc - 1) },
        pc := p } s.main.de (s.peek s.main.hl) := by
  subst hhl hde
  rw [← transferFlags_eq]
  refine ⟨hb, _, he, withAnyXY_six _ _, ?_, fun x hx => ?_, rfl⟩
  · exact (s.blockTransfer_peek k s.main.de).trans (if_pos rfl)
  · exact (s.blockTransfer_peek k x).trans (if_neg hx)

/-- One iteration of LDIR: the transfer of LDI, and PC past the instruction only where the new count is 0
(R197). -/
theorem exec_ldir (s : State) :
    exec .ldir s = .next { s.blockTransfer 1 with
      pc := if s.main.bc - 1 = 0 then s.pc + 2 else s.pc
      returned := if s.main.bc - 1 = 0 then 16 else 21 } :=
  congrArg _ ((s.blockTransfer 1).repeatIf_eq_of_iff bne_eq_false_iff_eq)

/-- One iteration of LDDR, likewise (R199). -/
theorem exec_lddr (s : State) :
    exec .lddr s = .next { s.blockTransfer (-1) with
      pc := if s.main.bc - 1 = 0 then s.pc + 2 else s.pc
      returned := if s.main.bc - 1 = 0 then 16 else 21 } :=
  congrArg _ ((s.blockTransfer (-1)).repeatIf_eq_of_iff bne_eq_false_iff_eq)

/-- Settles O43: all four forms by `flaggedStored_of_blockTransfer`, with the step 1 or -1. -/
theorem blockTransferForms : Obligations.BlockTransferForms := by
  unfold Obligations.BlockTransferForms
  intro s
  have hl_sub := (BitVec.sub_eq_add_neg s.main.hl 1).symm
  have de_sub := (BitVec.sub_eq_add_neg s.main.de 1).symm
  exact ⟨flaggedStored_of_blockTransfer rfl rfl rfl rfl,
    flaggedStored_of_blockTransfer rfl (exec_ldir s) rfl rfl,
    flaggedStored_of_blockTransfer rfl rfl hl_sub de_sub,
    flaggedStored_of_blockTransfer rfl (exec_lddr s) hl_sub de_sub⟩

/-! ### Block search -/

/-- S, Z and H are the comparison's, PV says the new count is not 0, N is set, C is kept (R200). -/
theorem searchFlags_eq (a v : Byte) (bc : Word) (f : Flags) :
    searchFlags a v bc f =
      { f with
        s := (a - v).getLsbD 7, z := decide (a = v), h := decide (a.toNat % 16 < v.toNat % 16),
        pv := decide (bc ≠ 0), n := true } := by
  have hz : (a - v == 0#8) = decide (a = v) := by
    rw [beq_eq_decide, decide_eq_decide, BitVec.sub_eq_iff_eq_add, BitVec.zero_add]
  rw [searchFlags, bne_zero_eq_decide]
  simp [sub8, msb_eq_getLsbD_7, hz]

/-- An instruction that compares A with the byte at HL, steps HL by `k`, counts BC down, and leaves PC at
`p`. -/
theorem flagged_of_blockSearch {i : Instr} {bytes : List Byte} {s : State} {k p hl : Word} {n : Nat}
    (hb : encode i = bytes) (he : exec i s = .next { s.blockSearch k with pc := p, returned := n })
    (hhl : s.main.hl + k = hl) :
    flagged i bytes s
      { s.main.f with
        s := (s.main.a - s.peek s.main.hl).getLsbD 7, z := decide (s.main.a = s.peek s.main.hl),
        h := decide (s.main.a.toNat % 16 < (s.peek s.main.hl).toNat % 16),
        pv := decide (s.main.bc - 1 ≠ 0), n := true }
      { pastDrawn s 2 n [readOf s s.main.hl] with
        main := { s.main with
                  h := hi hl, l := lo hl, b := hi (s.main.bc - 1), c := lo (s.main.bc - 1) },
        pc := p } := by
  subst hhl
  rw [← searchFlags_eq]
  exact ⟨hb, _, he, withAnyXY_six _ _, rfl⟩

/-- A repeating search is done where the new count is 0 or the bytes are equal (R201). -/
theorem searchAgain_eq_false_iff (bc : Word) (a v : Byte) :
    (bc != 0 && a != v) = false ↔ bc = 0 ∨ a = v := by
  rw [Bool.and_eq_false_iff, bne_eq_false_iff_eq, bne_eq_false_iff_eq]

/-- One iteration of CPIR: the search of CPI, and PC past the instruction only where it is done (R201). -/
theorem exec_cpir (s : State) :
    exec .cpir s = .next { s.blockSearch 1 with
      pc := if s.main.bc - 1 = 0 ∨ s.main.a = s.peek s.main.hl then s.pc + 2 else s.pc
      returned := if s.main.bc - 1 = 0 ∨ s.main.a = s.peek s.main.hl then 16 else 21 } :=
  congrArg _ ((s.blockSearch 1).repeatIf_eq_of_iff (searchAgain_eq_false_iff _ _ _))

/-- One iteration of CPDR, likewise (R203). -/
theorem exec_cpdr (s : State) :
    exec .cpdr s = .next { s.blockSearch (-1) with
      pc := if s.main.bc - 1 = 0 ∨ s.main.a = s.peek s.main.hl then s.pc + 2 else s.pc
      returned := if s.main.bc - 1 = 0 ∨ s.main.a = s.peek s.main.hl then 16 else 21 } :=
  congrArg _ ((s.blockSearch (-1)).repeatIf_eq_of_iff (searchAgain_eq_false_iff _ _ _))

/-- Settles O44: all four forms by `flagged_of_blockSearch`, with the step 1 or -1. -/
theorem blockSearchForms : Obligations.BlockSearchForms := by
  unfold Obligations.BlockSearchForms
  intro s
  have hl_sub := (BitVec.sub_eq_add_neg s.main.hl 1).symm
  exact ⟨flagged_of_blockSearch rfl rfl rfl, flagged_of_blockSearch rfl (exec_cpir s) rfl,
    flagged_of_blockSearch rfl rfl hl_sub, flagged_of_blockSearch rfl (exec_cpdr s) hl_sub⟩

end Sys2Proof.Machine
end

section
/-! PROOFS. A whole block copied by LDIR (R197). -/

namespace Sys2Proof.Machine

open State Claim

namespace State

variable (s : State) (k : Word)

@[simp] theorem blockTransfer_hl : (s.blockTransfer k).main.hl = s.main.hl + k := pair_hi_lo _
@[simp] theorem blockTransfer_de : (s.blockTransfer k).main.de = s.main.de + k := pair_hi_lo _
@[simp] theorem blockTransfer_bc : (s.blockTransfer k).main.bc = s.main.bc - 1 := pair_hi_lo _
@[simp] theorem blockTransfer_a : (s.blockTransfer k).main.a = s.main.a := rfl

end State

/-- `t` is `s` with `n` bytes copied from HL on to DE on, the pointers and the count moved by `n`; memory
elsewhere and A are as before. -/
structure Copied (s t : State) (n : Nat) : Prop where
  block : ∀ k, k < n → t.peek (s.main.de + BitVec.ofNat 16 k) = s.peek (s.main.hl + BitVec.ofNat 16 k)
  frame : ∀ x, (∀ k, k < n → x ≠ s.main.de + BitVec.ofNat 16 k) → t.peek x = s.peek x
  hl : t.main.hl = s.main.hl + BitVec.ofNat 16 n
  de : t.main.de = s.main.de + BitVec.ofNat 16 n
  bc : t.main.bc = s.main.bc - BitVec.ofNat 16 n
  a : t.main.a = s.main.a

/-- The two blocks of `n` bytes share no address. -/
def Apart (src dst : Word) (n : Nat) : Prop :=
  ∀ j k, j < n → k < n → dst + BitVec.ofNat 16 j ≠ src + BitVec.ofNat 16 k

/-- The address `k` past the next one. -/
theorem add_one_add_ofNat (x : Word) (k : Nat) :
    x + BitVec.ofNat 16 1 + BitVec.ofNat 16 k = x + BitVec.ofNat 16 (k + 1) := by
  rw [BitVec.add_assoc, Nat.add_comm k, BitVec.ofNat_add]

theorem Apart.tail {src dst : Word} {n : Nat} (h : Apart src dst (n + 1)) :
    Apart (src + BitVec.ofNat 16 1) (dst + BitVec.ofNat 16 1) n := by
  intro j k hj hk
  rw [add_one_add_ofNat, add_one_add_ofNat]
  exact h _ _ (Nat.succ_lt_succ hj) (Nat.succ_lt_succ hk)

/-- One iteration copies one byte. -/
theorem copied_one {s t : State} (hm : t.mem = (s.blockTransfer 1).mem)
    (hmain : t.main = (s.blockTransfer 1).main) : Copied s t 1 := by
  have hpeek (x : Word) : t.peek x = if x = s.main.de then s.peek s.main.hl else s.peek x :=
    (peek_congr hm x).trans (s.blockTransfer_peek 1 x)
  refine ⟨fun k hk => ?_, fun x hx => ?_, (congrArg Bank.hl hmain).trans (s.blockTransfer_hl 1),
    (congrArg Bank.de hmain).trans (s.blockTransfer_de 1),
    (congrArg Bank.bc hmain).trans (s.blockTransfer_bc 1),
    (congrArg Bank.a hmain).trans (s.blockTransfer_a 1)⟩
  · obtain rfl := Nat.lt_one_iff.1 hk
    rw [BitVec.add_zero, BitVec.add_zero, hpeek, if_pos rfl]
  · have hde := hx 0 Nat.zero_lt_one
    rw [BitVec.add_zero] at hde
    rw [hpeek, if_neg hde]

/-- One byte and then `n` more make `n + 1`, where no byte of the source is written before it is read. -/
theorem Copied.cons {s t u : State} {n : Nat} (hn : n < 2 ^ 16) (hap : Apart s.main.hl s.main.de (n + 1))
    (h1 : Copied s t 1) (h : Copied t u n) : Copied s u (n + 1) := by
  obtain ⟨block1, frame1, hl1, de1, bc1, a1⟩ := h1
  obtain ⟨block, frame, hl, de, bc, a⟩ := h
  simp only [hl1, de1, add_one_add_ofNat] at block frame hl de
  refine ⟨fun k hk => ?_, fun x hx => ?_, hl, de, ?_, a.trans a1⟩
  · cases k with
    | zero =>
      have hne : ∀ j, j < n → s.main.de + BitVec.ofNat 16 0 ≠ s.main.de + BitVec.ofNat 16 (j + 1) := by
        intro j hj
        bv_omega
      exact (frame _ hne).trans (block1 0 Nat.zero_lt_one)
    | succ k =>
      refine (block k (Nat.lt_of_succ_lt_succ hk)).trans (frame1 _ fun j hj => ?_)
      exact (hap j (k + 1) (by omega) hk).symm
  · exact (frame x fun k hk => hx (k + 1) (Nat.succ_lt_succ hk)).trans
      (frame1 x fun k hk => hx k (by omega))
  · rw [bc, bc1, Nat.add_comm n, BitVec.ofNat_add]
    bv_omega

/-- How a run of LDIR ends: PV clear, PC past the instruction, 16 time units (R197). -/
structure LdirDone (s t : State) : Prop where
  pv : t.main.f.pv = false
  pc : t.pc = s.pc + 2
  returned : t.returned = 16

/-- With a count of 1 the iteration is the last. -/
theorem exec_ldir_last {s : State} (h : s.main.bc - 1 = 0) :
    ∃ t, exec .ldir s = .next t ∧ Copied s t 1 ∧ LdirDone s t :=
  ⟨_, exec_ldir s, copied_one rfl rfl, bne_eq_false_iff_eq.2 h, if_pos h, if_pos h⟩

/-- With a greater count LDIR stays at its own address. -/
theorem exec_ldir_repeats {s : State} (h : s.main.bc - 1 ≠ 0) :
    ∃ t, exec .ldir s = .next t ∧ Copied s t 1 ∧ t.pc = s.pc :=
  ⟨_, exec_ldir s, copied_one rfl rfl, if_neg h⟩

theorem again_succ {i : Instr} {s t : State} (h : exec i s = .next t) (n : Nat) :
    again i (n + 1) s = again i n t := by
  rw [again, h]

/-- LDIR executed as often as BC says copies that many bytes and is done: by induction on the count, the
first iteration before the others. -/
theorem again_ldir {n : Nat} (hn : 1 ≤ n) {s : State} (hbc : s.main.bc.toNat = n)
    (hap : Apart s.main.hl s.main.de n) :
    ∃ t, again .ldir n s = .next t ∧ Copied s t n ∧ LdirDone s t := by
  induction n, hn using Nat.le_induction generalizing s with
  | base =>
    have hlast : s.main.bc - 1 = 0 := by bv_omega
    obtain ⟨t, he, hc, hd⟩ := exec_ldir_last hlast
    exact ⟨t, again_succ he 0, hc, hd⟩
  | succ n hn ih =>
    have hlt := s.main.bc.isLt
    have hmore : s.main.bc - 1 ≠ 0 := by bv_omega
    obtain ⟨t, he, hc, hpc⟩ := exec_ldir_repeats hmore
    have hbc' : t.main.bc.toNat = n := by rw [hc.bc]; bv_omega
    have hap' : Apart t.main.hl t.main.de n := by rw [hc.hl, hc.de]; exact hap.tail
    obtain ⟨u, hu, hcu, hdu⟩ := ih hbc' hap'
    exact ⟨u, (again_succ he n).trans hu, hc.cons (by omega) hap hcu, hdu.pv, hpc ▸ hdu.pc,
      hdu.returned⟩

/-- Settles O45: `again_ldir`; the count moved by itself is 0. -/
theorem ldirCopiesBlock : Obligations.LdirCopiesBlock := by
  unfold Obligations.LdirCopiesBlock
  intro s n hbc hn hap
  obtain ⟨t, he, hc, hd⟩ := again_ldir hn hbc hap
  have hzero : t.main.bc = 0 := by rw [hc.bc]; bv_omega
  exact ⟨t, he, hc.block, hc.frame, hc.hl, hc.de, hzero, hd.pv, hc.a, hd.pc, hd.returned⟩

end Sys2Proof.Machine
end

section
/-! PROOFS. The CPU control instructions (R216 to R222), and HALT: waiting, released, idle (R217, R350). -/

namespace Sys2Proof.Machine

open State Claim

/-- Settles O47: each is one update. -/
theorem controlForms : Obligations.ControlForms := by
  unfold Obligations.ControlForms
  intro s
  exact ⟨⟨rfl, rfl⟩, ⟨rfl, rfl⟩, ⟨rfl, rfl⟩, ⟨rfl, rfl⟩, ⟨rfl, rfl⟩, ⟨rfl, rfl⟩⟩

/-- HALT released by a signal goes on (R217). -/
theorem exec_halt_of_satisfied {s : State} (h : s.haltSt = .satisfied) :
    exec .halt s = .next (finish { s with haltSt := .none } 1 4) := if_pos h

/-- HALT not released waits at its own address (R217). -/
theorem exec_halt_of_ne_satisfied {s : State} (h : s.haltSt ≠ .satisfied) :
    exec .halt s = .next (hold { s with haltSt := .waiting } 4) := if_neg h

namespace State

variable {s : State}

/-- A signal does no more to a waiting engine than to release it (R346, R348). -/
theorem signal_of_waiting (h : s.haltSt = .waiting) (x : Signal) :
    s.signal x = { s with haltSt := .satisfied } := by
  rcases s.signal_cases x with ⟨_, e⟩ | ⟨hw, _⟩ | ⟨hw, _⟩ | ⟨hw, _⟩
  · exact e
  all_goals exact absurd h hw

theorem signalNmi_of_not_waiting (h : s.haltSt ≠ .waiting) :
    s.signalNmi = { s.enter s.cfg.nmiVector with iff2 := s.iff1, iff1 := false } := if_neg h

theorem signalInt_of_enabled (h : s.haltSt ≠ .waiting) (h1 : s.iff1 = true) :
    s.signalInt = { s.enter s.cfg.intVector with iff1 := false, iff2 := false } :=
  (if_neg h).trans (if_pos h1)

theorem signalInt_of_disabled (h : s.haltSt ≠ .waiting) (h1 : s.iff1 = false) : s.signalInt = s :=
  (if_neg h).trans (if_neg (by simp [h1]))

/-- A signal leaves HALT_ST but where it releases a waiting engine (R350). -/
theorem signal_haltSt_of_not_waiting (h : s.haltSt ≠ .waiting) (x : Signal) :
    (s.signal x).haltSt = s.haltSt := by
  rcases s.signal_cases x with ⟨hw, _⟩ | ⟨_, _, e⟩ | ⟨_, _, _, e⟩ | ⟨_, _, _, e⟩
  · exact absurd hw h
  all_goals simp [e]

/-- The two bytes of PC an interrupt entry leaves on the stack (R354). -/
theorem enter_peek_stack (s : State) (v : Word) :
    (s.enter v).peek (s.sp - 1) = hi s.pc ∧ (s.enter v).peek (s.sp - 2) = lo s.pc := by
  have hne : s.sp - 1 ≠ s.sp - 2 := by bv_omega
  exact ⟨(s.enter_peek v _).trans ((if_neg hne).trans (if_pos rfl)), (s.enter_peek v _).trans (if_pos rfl)⟩

/-- The EI-delay update neither reads nor writes the schedule of signals. -/
theorem eiUpdate_with_signals (s : State) (q : List (List Signal)) :
    { s with signals := q }.eiUpdate = { s.eiUpdate with signals := q } := by
  cases h : s.eiSt <;> simp [eiUpdate, h]

end State

/-- Settles O23: HALT by its two cases, the signals by their equations, every other instruction by
`specialRegisterWriters`. -/
theorem haltWaitsAndIsReleased : Obligations.HaltWaitsAndIsReleased := by
  unfold Obligations.HaltWaitsAndIsReleased
  intro s
  refine ⟨fun h => ⟨rfl, exec_halt_of_ne_satisfied h⟩, fun h => ⟨rfl, exec_halt_of_satisfied h⟩,
    fun h => ⟨signal_of_waiting h .nmi, signal_of_waiting h .int⟩, fun h => ?_, fun h h1 => ?_,
    signalInt_of_disabled, fun i t he => ?_⟩
  · refine ⟨signal_haltSt_of_not_waiting h .nmi, signal_haltSt_of_not_waiting h .int, ?_⟩
    rw [signalNmi_of_not_waiting h]
    exact ⟨rfl, rfl, rfl, rfl, s.enter_peek_stack s.cfg.nmiVector⟩
  · rw [signalInt_of_enabled h h1]
    exact ⟨rfl, rfl, rfl, rfl, s.enter_peek_stack s.cfg.intVector⟩
  · obtain ⟨-, -, -, -, -, -, hh, -⟩ := specialRegisterWriters i s t he
    exact hh

/-- HALT advances R by 1 under either policy (R31). -/
theorem rIncrement_halt (p : RPolicy) : rIncrement p (Instr.length .halt) 0x76#8 = 1 := by
  cases p <;> rfl

/-- Settles O24: by the invariant the waiting engine fetches HALT again, and HALT waits on. -/
theorem waitingEngineIdles : Obligations.WaitingEngineIdles := by
  unfold Obligations.WaitingEngineIdles
  intro s hs hw hq
  have hb := hs.halted hw
  have hu : s.deliver.eiUpdate = { s.eiUpdate with signals := s.signals.tail } := by
    rw [s.deliver_of_no_signal hq, eiUpdate_with_signals]
  have hmem : s.deliver.eiUpdate.mem = s.mem := by simp [hu]
  have hpc : s.deliver.eiUpdate.pc = s.pc := by simp [hu]
  have hd : s.deliver.eiUpdate.decoded = .ok .halt := by
    simp only [decoded, hpc, peek_congr hmem, hb, decode_76]
  have hns : (s.deliver.eiUpdate.readied .halt).haltSt ≠ .satisfied := by simp [hu, hw]
  rw [step_of_decoded hd, exec_halt_of_ne_satisfied hns, readied_eq, hpc]
  simp only [peek_congr hmem, hb]
  rw [rIncrement_halt, hu]
  refine congrArg Host.Outcome.next ?_
  ext1 <;> simp [advance, hw]

end Sys2Proof.Machine
end

section
/-! PROOFS. DAA, CPL, NEG, CCF, SCF (R211 to R215), and decimal sums and differences through DAA. -/

namespace Sys2Proof.Machine

open State Claim

/-! ### The accumulator and carry instructions -/

/-- What DAA adds or subtracts (R211). -/
def daaCorrection (a : Byte) (f : Flags) : Nat :=
  (if f.h = true ∨ a.toNat % 16 > 9 then 6 else 0) + (if f.c = true ∨ a.toNat > 0x99 then 0x60 else 0)

/-- What DAA leaves in A (R211). -/
def daaResult (a : Byte) (f : Flags) : Byte :=
  if f.n = true then a - BitVec.ofNat 8 (daaCorrection a f) else a + BitVec.ofNat 8 (daaCorrection a f)

theorem daa_fst (a : Byte) (f : Flags) : (daa a f).1 = daaResult a f := by
  by_cases hl : f.h = true ∨ a.toNat % 16 > 9 <;> by_cases hh : f.c = true ∨ a.toNat > 0x99 <;>
    simp [daa, daaResult, daaCorrection, hl, hh]

/-- `daa` by the correction as a number, its six flags by the result (R211). -/
theorem daa_eq (a : Byte) (f : Flags) : daa a f = (daaResult a f, { f with
    s := (daaResult a f).getLsbD 7, z := decide (daaResult a f = 0#8),
    h := if f.n = true then f.h && decide (a.toNat % 16 < 6) else decide (a.toNat % 16 > 9),
    pv := parity8 (daaResult a f), c := f.c || decide (a.toNat > 0x99) }) := by
  rw [← daa_fst, ← msb_eq_getLsbD_7, ← beq_eq_decide]
  rfl

/-- Negation overflows for 80 alone (R213). -/
theorem sub8_zero_left_pv (a : Byte) (f : Flags) : (sub8 0 a false f).2.pv = decide (a = 0x80#8) := by
  have ha := a.isLt
  have h80 : a = 0x80#8 ↔ a.toNat = 128 := BitVec.toNat_eq
  rw [sub8_pv, overflow_sub_eq_range (sub8_toNat 0 a false f), decide_eq_decide, h80, toInt_eq_ite a]
  simp only [BitVec.ofNat_eq_ofNat, BitVec.toInt_zero, Bool.toNat_false]
  split_ifs <;> omega

/-- NEG is a subtraction from 0: its result and its flags in closed form (R213). -/
theorem sub8_zero_left (a : Byte) (f : Flags) : sub8 0 a false f = (-a, { f with
    s := (-a).getLsbD 7, z := decide (a = 0#8), h := decide (a.toNat % 16 ≠ 0), pv := decide (a = 0x80#8),
    n := true, c := decide (a ≠ 0#8) }) := by
  have hres : (sub8 0 a false f).1 = -a := by simp [sub8]
  have hz : -a = 0 ↔ a = 0#8 := neg_eq_zero
  have h0 : a = 0#8 ↔ a.toNat = 0 := BitVec.toNat_eq
  refine Prod.ext hres ?_
  ext1
  case s => rw [sub8_s, hres]
  case z => exact (congrArg (· == 0) hres).trans ((beq_eq_decide _ _).trans (decide_eq_decide.2 hz))
  case pv => exact sub8_zero_left_pv a f
  case h => simp [sub8, Nat.pos_iff_ne_zero]
  case c => simp [sub8, Nat.pos_iff_ne_zero, h0]
  all_goals rfl

theorem exec_daa (s : State) : exec .daa s =
    .next (((s.setA (daa s.main.a s.main.f).1).putFlags (daa s.main.a s.main.f).2).finish 1 4) := rfl

theorem exec_neg (s : State) : exec .neg s = .next (((s.setA (sub8 0 s.main.a false s.main.f).1).putFlags
    (sub8 0 s.main.a false s.main.f).2).finish 2 8) := rfl

/-- Settles O46: DAA, CPL and NEG by `flagged_of_setA`; CCF and SCF compute flags alone. -/
theorem accumulatorAndCarryForms : Obligations.AccumulatorAndCarryForms := by
  unfold Obligations.AccumulatorAndCarryForms
  intro s
  refine ⟨?_, ?_, ?_, ⟨rfl, _, rfl, withAnyXY_six _ _, rfl⟩, ⟨rfl, _, rfl, withAnyXY_six _ _, rfl⟩⟩
  · rintro _ _ _ rfl rfl rfl
    have h := flagged_of_setA rfl (exec_daa s)
    rw [daa_eq] at h
    exact h
  · rw [← BitVec.xor_allOnes]
    exact flagged_of_setA rfl rfl
  · have h := flagged_of_setA rfl (exec_neg s)
    rw [sub8_zero_left] at h
    exact h

/-! ### Decimal sums and differences -/

theorem toNat_bcd {n : Nat} (h : n < 100) : (bcd n).toNat = n / 10 * 16 + n % 10 := by
  rw [bcd, BitVec.toNat_ofNat, Nat.mod_eq_of_lt (by omega)]

/-- The new carry is the correction of the high digit (R211). -/
theorem daa_c_iff (a : Byte) (f : Flags) : (daa a f).2.c = true ↔ f.c = true ∨ a.toNat > 0x99 := by
  simp [daa]

theorem daaResult_toNat_of_add (a : Byte) {f : Flags} (hn : f.n = false) :
    (daaResult a f).toNat = (a.toNat + daaCorrection a f) % 256 := by
  simp [daaResult, hn]

theorem daaResult_toNat_of_sub (a : Byte) {f : Flags} (hn : f.n = true) :
    ((daaResult a f).toNat : Int) = ((a.toNat : Int) - daaCorrection a f) % 256 := by
  have hk : daaCorrection a f < 2 ^ 8 := by
    unfold daaCorrection
    split_ifs <;> decide
  rw [daaResult, if_pos hn, toNat_sub_eq_emod, BitVec.toNat_ofNat, Nat.mod_eq_of_lt hk]
  rfl

/-- The tens and the ones of two decimals added, without carry. -/
theorem exists_digit_sums {x y : Nat} (hx : x < 100) (hy : y < 100) :
    ∃ d l : Nat, l ≤ 18 ∧ x + y = 10 * d + l ∧ (bcd x).toNat + (bcd y).toNat = 16 * d + l ∧
      (bcd x).toNat % 16 + (bcd y).toNat % 16 = l := by
  refine ⟨x / 10 + y / 10, x % 10 + y % 10, ?_⟩
  rw [toNat_bcd hx, toNat_bcd hy]
  omega

/-- The tens and the ones of two decimals subtracted, without borrow. -/
theorem exists_digit_differences {x y : Nat} (hx : x < 100) (hy : y < 100) :
    ∃ d l : Int, d ≤ 9 ∧ -9 ≤ l ∧ l ≤ 9 ∧ (x : Int) - y = 10 * d + l ∧
      ((bcd x).toNat : Int) - (bcd y).toNat = 16 * d + l ∧
      ((bcd x).toNat % 16 : Int) - ((bcd y).toNat % 16 : Int) = l := by
  refine ⟨(x / 10 : Int) - (y / 10 : Int), (x % 10 : Int) - (y % 10 : Int), ?_⟩
  rw [toNat_bcd hx, toNat_bcd hy]
  omega

/-- After the sum of two decimals DAA adds 6 where their low digits carry and 60 where the numbers do, which
gives their decimal sum (R113, R211). -/
theorem daa_add8_bcd {x y : Nat} (hx : x < 100) (hy : y < 100) (f : Flags) {g : Flags}
    (hg : six g (add8 (bcd x) (bcd y) false f).2) :
    (daa (add8 (bcd x) (bcd y) false f).1 g).1 = bcd ((x + y) % 100) ∧
      (daa (add8 (bcd x) (bcd y) false f).1 g).2.c = decide (100 ≤ x + y) := by
  obtain ⟨-, -, hh, -, hn, hc⟩ := hg
  obtain ⟨d, l, hl, hxy, hsum, hones⟩ := exists_digit_sums hx hy
  have ha := add8_toNat (bcd x) (bcd y) false f
  generalize (add8 (bcd x) (bcd y) false f).1 = a at ha
  simp only [add8, Bool.toNat_false, Nat.add_zero, hsum, hones] at hn hh hc ha
  have hlow : g.h = true ∨ a.toNat % 16 > 9 ↔ 10 ≤ l := by
    rw [hh, ha, decide_eq_true_iff]
    omega
  have hhigh : g.c = true ∨ a.toNat > 0x99 ↔ 100 ≤ 10 * d + l := by
    rw [hc, ha, decide_eq_true_iff]
    omega
  have hres := daaResult_toNat_of_add a hn
  simp only [daaCorrection, hlow, hhigh] at hres
  rw [hxy]
  constructor
  · rw [daa_fst, ← BitVec.toNat_inj, toNat_bcd (Nat.mod_lt _ (by decide)), hres, ha]
    split_ifs <;> omega
  · rw [Bool.eq_iff_iff, daa_c_iff, hhigh, decide_eq_true_iff]

/-- After the difference of two decimals DAA takes away 6 where their low digits borrow and 60 where the
numbers do, which gives their decimal difference (R114, R211). -/
theorem daa_sub8_bcd {x y : Nat} (hx : x < 100) (hy : y < 100) (f : Flags) {g : Flags}
    (hg : six g (sub8 (bcd x) (bcd y) false f).2) :
    (daa (sub8 (bcd x) (bcd y) false f).1 g).1 = bcd ((x + 100 - y) % 100) ∧
      (daa (sub8 (bcd x) (bcd y) false f).1 g).2.c = decide (x < y) := by
  obtain ⟨-, -, hh, -, hn, hc⟩ := hg
  obtain ⟨d, l, hd, hl, hl', hxy, hsub, hones⟩ := exists_digit_differences hx hy
  have ha := sub8_toNat (bcd x) (bcd y) false f
  generalize (sub8 (bcd x) (bcd y) false f).1 = a at ha
  simp only [sub8, Bool.toNat_false, Nat.add_zero, Nat.cast_zero, sub_zero, hsub] at hn hh hc ha
  have hlow : g.h = true ∨ a.toNat % 16 > 9 ↔ l < 0 := by
    rw [hh, decide_eq_true_iff]
    omega
  have hborrow : (bcd x).toNat < (bcd y).toNat ↔ 10 * d + l < 0 := by omega
  have hhigh : g.c = true ∨ a.toNat > 0x99 ↔ x < y := by
    rw [hc, decide_eq_true_iff, hborrow]
    omega
  have hres := daaResult_toNat_of_sub a hn
  simp only [daaCorrection, hlow, hhigh] at hres
  constructor
  · rw [daa_fst, ← BitVec.toNat_inj, toNat_bcd (Nat.mod_lt _ (by decide))]
    split_ifs at hres <;> omega
  · rw [Bool.eq_iff_iff, daa_c_iff, hhigh, decide_eq_true_iff]

/-- Settles O35: DAA reads the flags ADD and SUB computed, and corrects by `daa_add8_bcd` and
`daa_sub8_bcd`. -/
theorem daaCorrectsDecimalSums : Obligations.DaaCorrectsDecimalSums := by
  unfold Obligations.DaaCorrectsDecimalSums
  intro s x y hx hy ha
  constructor
  · refine ⟨_, _, rfl, exec_daa _, ?_⟩
    have h := daa_add8_bcd hx hy s.main.f (withAnyXY_six _ s.nextDraw)
    rw [← ha] at h
    exact h
  · refine ⟨_, _, rfl, exec_daa _, ?_⟩
    have h := daa_sub8_bcd hx hy s.main.f (withAnyXY_six _ s.nextDraw)
    rw [← ha] at h
    exact h

end Sys2Proof.Machine
end

section
/-! PROOFS. The 8-bit arithmetic and logic group (R231 to R246): accumulator operations in all their forms,
and INC and DEC of registers, index halves and memory bytes. -/

namespace Sys2Proof.Machine

open State Claim

/-! ### Accumulator operations -/

/-- An instruction that issues the accesses `es` and applies an accumulator operation to the operand `v`
(R230). -/
theorem flagged_of_acc (op : AccOp) {i : Instr} {bytes : List Byte} {s : State} {es : List BusAccess}
    {v : Byte} {len n : Nat} (hb : encode i = bytes)
    (he : exec i s = .next ((State.acc { s with bus := es.reverse ++ s.bus } op v).finish len n)) :
    flagged i bytes s (acc8 op s.main.a v s.main.f).2
      { pastDrawn s len n es with main := { s.main with a := (acc8 op s.main.a v s.main.f).1 } } :=
  ⟨hb, _, he, withAnyXY_six _ _, by rw [acc_eq]; rfl⟩

/-- A comparison has the flags of SUB and leaves A (R116, R238). -/
theorem flagged_of_compare {i : Instr} {bytes : List Byte} {s : State} {es : List BusAccess} {v : Byte}
    {len n : Nat} (hb : encode i = bytes)
    (he : exec i s = .next ((State.acc { s with bus := es.reverse ++ s.bus } .cp v).finish len n)) :
    flagged i bytes s (sub8 s.main.a v false s.main.f).2 (pastDrawn s len n es) :=
  flagged_of_acc .cp hb he

/-- Settles O48: every form is one accumulator operation, by `flagged_of_acc` and `flagged_of_compare`; the
nine forms of ADD, then those of ADC, SUB, SBC and CP. -/
theorem addSubCompareForms : Obligations.AddSubCompareForms := by
  unfold Obligations.AddSubCompareForms
  intro s r n d
  iterate 9 refine ⟨flagged_of_acc .add rfl rfl, ?_⟩
  iterate 9 refine ⟨flagged_of_acc .adc rfl rfl, ?_⟩
  iterate 9 refine ⟨flagged_of_acc .sub rfl rfl, ?_⟩
  iterate 9 refine ⟨flagged_of_acc .sbc rfl rfl, ?_⟩
  iterate 8 refine ⟨flagged_of_compare rfl rfl, ?_⟩
  exact flagged_of_compare rfl rfl

/-- The flags of a logical operation's result in closed form (R115). -/
theorem logicFlags_eq (res : Byte) (h : Bool) (f : Flags) :
    logicFlags res h f = { f with
      s := res.getLsbD 7, z := decide (res = 0#8), h := h, pv := parity8 res, n := false, c := false } := by
  simp only [logicFlags, msb_eq_getLsbD_7, beq_eq_decide, BitVec.ofNat_eq_ofNat]

/-- Settles O49: the nine forms of AND, XOR and OR by `flagged_of_acc`; the flags by `logicFlags_eq`. -/
theorem logicForms : Obligations.LogicForms := by
  unfold Obligations.LogicForms
  intro s r n d
  iterate 9 refine ⟨flagged_of_acc .and rfl rfl, ?_⟩
  iterate 9 refine ⟨flagged_of_acc .xor rfl rfl, ?_⟩
  iterate 9 refine ⟨flagged_of_acc .or rfl rfl, ?_⟩
  exact fun res h => logicFlags_eq res h s.main.f

/-! ### INC and DEC -/

/-- An instruction that puts a computed value in IX or a half of it, with computed flags. -/
theorem flagged_of_setIx {i : Instr} {bytes : List Byte} {s : State} {v : Word} {f : Flags} {len n : Nat}
    (hb : encode i = bytes) (he : exec i s = .next (((s.setIx v).putFlags f).finish len n)) :
    flagged i bytes s f { pastDrawn s len n [] with ix := v } :=
  ⟨hb, _, he, withAnyXY_six f _, rfl⟩

/-- An instruction that puts a computed value in IY or a half of it, with computed flags. -/
theorem flagged_of_setIy {i : Instr} {bytes : List Byte} {s : State} {v : Word} {f : Flags} {len n : Nat}
    (hb : encode i = bytes) (he : exec i s = .next (((s.setIy v).putFlags f).finish len n)) :
    flagged i bytes s f { pastDrawn s len n [] with iy := v } :=
  ⟨hb, _, he, withAnyXY_six f _, rfl⟩

/-- An instruction that reads a byte and writes a computed one to the same address, with computed flags. -/
theorem flaggedStored_of_modify {i : Instr} {bytes : List Byte} {s : State} {a : Word} {v : Byte}
    {f : Flags} {len n : Nat} (hb : encode i = bytes)
    (he : exec i s = .next ((((s.memRead a).2.memWrite a v).putFlags f).finish len n)) :
    flaggedStored i bytes s f (pastDrawn s len n [readOf s a, .memWrite a v]) a v :=
  ⟨hb, _, he, withAnyXY_six f _, s.peek_memWrite_same a v,
    fun x hx => (s.peek_memWrite a x v).trans (if_neg hx), rfl⟩

/-- Settles O50: registers by `flagged_of_setR8`, index halves by `flagged_of_setIx` and `flagged_of_setIy`,
memory forms by `flaggedStored_of_modify`; INC first, then DEC. -/
theorem incDecForms : Obligations.IncDecForms := by
  unfold Obligations.IncDecForms
  intro s r d
  exact ⟨
    flagged_of_setR8 rfl rfl, flagged_of_setIx rfl rfl, flagged_of_setIx rfl rfl,
    flagged_of_setIy rfl rfl, flagged_of_setIy rfl rfl, flaggedStored_of_modify rfl rfl,
    flaggedStored_of_modify rfl rfl, flaggedStored_of_modify rfl rfl,
    flagged_of_setR8 rfl rfl, flagged_of_setIx rfl rfl, flagged_of_setIx rfl rfl,
    flagged_of_setIy rfl rfl, flagged_of_setIy rfl rfl, flaggedStored_of_modify rfl rfl,
    flaggedStored_of_modify rfl rfl, flaggedStored_of_modify rfl rfl⟩

end Sys2Proof.Machine
end

section
/-! PROOFS. The 16-bit arithmetic group (R251 to R259): sums and differences into HL, IX and IY, and INC and
DEC of pairs and index registers. -/

namespace Sys2Proof.Machine

open State Claim

/-- An instruction that puts a computed word in HL, with computed flags. -/
theorem flagged_of_setHl {i : Instr} {bytes : List Byte} {s : State} {v : Word} {f : Flags} {len n : Nat}
    (hb : encode i = bytes) (he : exec i s = .next (((s.setHl v).putFlags f).finish len n)) :
    flagged i bytes s f
      { pastDrawn s len n [] with main := { s.main with h := hi v, l := lo v } } :=
  ⟨hb, _, he, withAnyXY_six f _, rfl⟩

/-- Settles O51: the sums and differences by `flagged_of_setHl`, `flagged_of_setIx` and `flagged_of_setIy`,
INC and DEC of pairs by `exact_of_setDd`; INC and DEC of IX and IY are one update each. -/
theorem arithmetic16Forms : Obligations.Arithmetic16Forms := by
  unfold Obligations.Arithmetic16Forms
  intro s p pp rr
  exact ⟨flagged_of_setHl rfl rfl, flagged_of_setHl rfl rfl, flagged_of_setHl rfl rfl,
    flagged_of_setIx rfl rfl, flagged_of_setIy rfl rfl, exact_of_setDd rfl rfl, exact_of_setDd rfl rfl,
    ⟨rfl, rfl⟩, ⟨rfl, rfl⟩, ⟨rfl, rfl⟩, ⟨rfl, rfl⟩⟩

end Sys2Proof.Machine
end

section
/-! PROOFS. The rotates and shifts of a memory byte, alone and with a copy in a register (R265 to R273), and
RLD and RRD (R274, R275). -/

namespace Sys2Proof.Machine

open State Claim

/-- An instruction that rotates or shifts a memory byte and puts the result in a register too: the register
is not F, so the flags of R124 stay. -/
theorem flaggedStored_of_rotMem_setR8 {i : Instr} {bytes : List Byte} {s : State} {op : RotOp} {a : Word}
    {r : Reg8} {len n : Nat} (hb : encode i = bytes)
    (he : exec i s = .next (((s.rotMem op a).2.setR8 r (s.rotMem op a).1).finish len n)) :
    flaggedStored i bytes s (rot8 op (s.peek a) s.main.f).2
      ((pastDrawn s len n [readOf s a, .memWrite a (rot8 op (s.peek a) s.main.f).1]).setR8 r
        (rot8 op (s.peek a) s.main.f).1) a (rot8 op (s.peek a) s.main.f).1 := by
  have hpeek (x : Word) : (((s.rotMem op a).2.setR8 r (s.rotMem op a).1).finish len n).peek x =
      if x = a then (rot8 op (s.peek a) s.main.f).1 else s.peek x :=
    (peek_congr (setR8_mem _ r _) x).trans (s.rotMem_peek op a x)
  refine ⟨hb, _, he, ?_, (hpeek a).trans (if_pos rfl), fun x hx => (hpeek x).trans (if_neg hx), ?_⟩
  · exact (setR8_main_f (s.rotMem op a).2 r _).symm ▸ withAnyXY_six _ _
  · cases r <;> rfl

/-- An instruction that writes two digits `v` back to the address they came from and puts `res` in A, with
the flags of the new A (R274). -/
theorem flaggedStored_of_rotateDigits {i : Instr} {bytes : List Byte} {s : State} {a : Word} {v res : Byte}
    {len n : Nat} (hb : encode i = bytes)
    (he : exec i s = .next (((((s.memRead a).2.memWrite a v).setA res).putFlags
      (moveFlags res (parity8 res) s.main.f)).finish len n)) :
    flaggedStored i bytes s
      { s.main.f with
        s := res.getLsbD 7, z := decide (res = 0#8), h := false, pv := parity8 res, n := false }
      { pastDrawn s len n [readOf s a, .memWrite a v] with main := { s.main with a := res } } a v := by
  rw [← moveFlags_eq]
  exact ⟨hb, _, he, withAnyXY_six _ _, s.peek_memWrite_same a v,
    fun x hx => (s.peek_memWrite a x v).trans (if_neg hx), rfl⟩

/-- Settles O53: for each of the eight operations the forms `(HL)`, `(IX+d)` and `(IY+d)` by
`flaggedStored_of_modify` and the copy forms by `flaggedStored_of_rotMem_setR8`; RLD and RRD by
`flaggedStored_of_rotateDigits`. -/
theorem rotateMemoryForms : Obligations.RotateMemoryForms := by
  unfold Obligations.RotateMemoryForms
  intro s r d
  iterate 8
    refine ⟨flaggedStored_of_modify rfl rfl,
      flaggedStored_of_modify rfl rfl, flaggedStored_of_rotMem_setR8 rfl rfl,
      flaggedStored_of_modify rfl rfl, flaggedStored_of_rotMem_setR8 rfl rfl, ?_⟩
  exact ⟨flaggedStored_of_rotateDigits rfl rfl, flaggedStored_of_rotateDigits rfl rfl⟩

end Sys2Proof.Machine
end

section
/-! PROOFS. The bit group (R281 to R289): BIT computes flags alone, SET and RES change one bit of a register or
a memory byte. -/

namespace Sys2Proof.Machine

open State Claim

/-- An instruction that issues the accesses `es` and computes flags, and changes nothing else but PC. -/
theorem flagged_of_putFlags {i : Instr} {bytes : List Byte} {s : State} {es : List BusAccess} {f : Flags}
    {len n : Nat} (hb : encode i = bytes)
    (he : exec i s = .next ((putFlags { s with bus := es.reverse ++ s.bus } f).finish len n)) :
    flagged i bytes s f (pastDrawn s len n es) :=
  ⟨hb, _, he, withAnyXY_six f _, rfl⟩

/-- An instruction that reads a byte and writes a computed one to the same address, and leaves the flags. -/
theorem stored_of_modify {i : Instr} {bytes : List Byte} {s : State} {a : Word} {v : Byte} {len n : Nat}
    (hb : encode i = bytes) (he : exec i s = .next (((s.memRead a).2.memWrite a v).finish len n)) :
    stored i bytes s (past s len n [readOf s a, .memWrite a v]) a v :=
  ⟨hb, _, he, s.peek_memWrite_same a v, fun x hx => (s.peek_memWrite a x v).trans (if_neg hx), rfl⟩

/-- As `stored_of_modify`, for a copy form: the byte written goes to a register too. -/
theorem stored_of_modify_setR8 {i : Instr} {bytes : List Byte} {s : State} {a : Word} {v : Byte} {r : Reg8}
    {len n : Nat} (hb : encode i = bytes)
    (he : exec i s = .next ((((s.memRead a).2.memWrite a v).setR8 r v).finish len n)) :
    stored i bytes s ((past s len n [readOf s a, .memWrite a v]).setR8 r v) a v := by
  have hpeek (x : Word) : ((((s.memRead a).2.memWrite a v).setR8 r v).finish len n).peek x =
      if x = a then v else s.peek x :=
    (peek_congr (setR8_mem _ r v) x).trans (s.peek_memWrite a x v)
  refine ⟨hb, _, he, (hpeek a).trans (if_pos rfl), fun x hx => (hpeek x).trans (if_neg hx), ?_⟩
  cases r <;> rfl

theorem getLsbD_bitMask (b : BitVec 3) {k : Nat} (hk : k < 8) :
    (bitMask b).getLsbD k = decide (k = b.toNat) := by
  have hb := b.isLt
  rw [bitMask, BitVec.getLsbD_shiftLeft, BitVec.getLsbD_one, Bool.eq_iff_iff]
  simp [hk]
  omega

/-- Settles O54: BIT by `flagged_of_putFlags`; SET, then RES: the register form by `exact_of_setR8`, the
memory forms by `stored_of_modify`, the copy forms by `stored_of_modify_setR8`. -/
theorem bitForms : Obligations.BitForms := by
  unfold Obligations.BitForms
  intro s b r d
  iterate 6 refine ⟨flagged_of_putFlags rfl rfl, ?_⟩
  iterate 2
    refine ⟨exact_of_setR8 rfl rfl, stored_of_modify rfl rfl,
      stored_of_modify rfl rfl, stored_of_modify_setR8 rfl rfl,
      stored_of_modify rfl rfl, stored_of_modify_setR8 rfl rfl, ?_⟩
  intro v k hk
  constructor
  · rw [setBit8, BitVec.getLsbD_or, getLsbD_bitMask b hk]
  · rw [resBit8, BitVec.getLsbD_and, BitVec.getLsbD_not, getLsbD_bitMask b hk, decide_not]
    simp [hk]

end Sys2Proof.Machine
end

section
/-! PROOFS. The jumps (R291 to R300). -/

namespace Sys2Proof.Machine

open State Claim

/-- A relative jump whose condition is met goes to its target (R293, R300). It starts from `t`, in which DJNZ
has already counted B down. -/
theorem exact_of_jumpRelIf_taken {i : Instr} {bytes : List Byte} {s t : State} {b : Bool} {e : Byte}
    {m n : Nat} (hb : encode i = bytes) (he : exec i s = .next (t.jumpRelIf b e m n)) (h : b = true) :
    exact i bytes s { past t 2 m [] with pc := t.pc + 2 + e.signExtend 16 } := by
  subst h
  exact ⟨hb, he⟩

/-- A relative jump whose condition is not met goes on (R294, R300). -/
theorem exact_of_jumpRelIf_notTaken {i : Instr} {bytes : List Byte} {s t : State} {b : Bool} {e : Byte}
    {m n : Nat} (hb : encode i = bytes) (he : exec i s = .next (t.jumpRelIf b e m n)) (h : b = false) :
    exact i bytes s (past t 2 n []) := by
  subst h
  exact ⟨hb, he⟩

/-- Settles O55: a jump is one update of PC; the conditional forms by the two outcomes of their condition, a
flag or, for DJNZ, the new B. -/
theorem jumpForms : Obligations.JumpForms := by
  unfold Obligations.JumpForms
  intro s cc nn e
  refine ⟨⟨rfl, rfl⟩, fun h => ⟨rfl, congrArg _ (if_pos h)⟩,
    fun h => ⟨rfl, congrArg _ (if_neg (ne_true_of_eq_false h))⟩, ⟨rfl, rfl⟩,
    exact_of_jumpRelIf_taken rfl rfl, exact_of_jumpRelIf_notTaken rfl rfl,
    exact_of_jumpRelIf_taken rfl rfl, exact_of_jumpRelIf_notTaken rfl rfl,
    exact_of_jumpRelIf_taken rfl rfl, exact_of_jumpRelIf_notTaken rfl rfl,
    exact_of_jumpRelIf_taken rfl rfl, exact_of_jumpRelIf_notTaken rfl rfl,
    ⟨rfl, rfl⟩, ⟨rfl, rfl⟩, ⟨rfl, rfl⟩, fun h => ?_, fun h => ?_⟩
  · exact exact_of_jumpRelIf_taken (t := s.setB (s.main.b - 1)) rfl rfl (bne_iff_ne.2 h)
  · rw [← h]
    exact exact_of_jumpRelIf_notTaken (t := s.setB (s.main.b - 1)) rfl rfl (bne_eq_false_iff_eq.2 h)

end Sys2Proof.Machine
end

section
/-! PROOFS. Calls and returns (R301 to R307): what a push leaves on the stack, and what a return takes from
it. -/

namespace Sys2Proof.Machine

open State Claim

/-! ### Memory after a push -/

section

variable {s t : State} {v : Word} (h : t.mem = (s.push16 v).mem)
include h

/-- A push writes the two bytes below SP and no other (R69). -/
theorem peek_pushed : t.peek (s.sp - 1) = hi v ∧ t.peek (s.sp - 2) = lo v ∧
    ∀ a, a ≠ s.sp - 1 → a ≠ s.sp - 2 → t.peek a = s.peek a := by
  have hne : s.sp - 1 ≠ s.sp - 2 := by bv_omega
  have hpeek (a : Word) : t.peek a = if a = s.sp - 2 then lo v else if a = s.sp - 1 then hi v else s.peek a :=
    (peek_congr h a).trans (s.peek_push16 a v)
  exact ⟨(hpeek _).trans ((if_neg hne).trans (if_pos rfl)), (hpeek _).trans (if_pos rfl),
    fun a h1 h2 => (hpeek a).trans ((if_neg h2).trans (if_neg h1))⟩

/-- The word at the new SP is the word pushed (R53, R69). -/
theorem word_pushed : word t (s.sp - 2) = v := by
  obtain ⟨hhi, hlo, -⟩ := peek_pushed h
  rw [word, show s.sp - 2 + 1 = s.sp - 1 by bv_omega, hhi, hlo, pair_hi_lo]

end

/-! ### Calls and returns -/

/-- A call that pushes the word `v` and goes to `target` (R301, R307). -/
theorem stored16_of_call {i : Instr} {bytes : List Byte} {s : State} {v target : Word} {len n : Nat}
    (hb : encode i = bytes) (he : exec i s = .next (s.call len target n)) (hv : s.npc len = v) :
    stored16 i bytes s { past s len n (pushes s v) with sp := s.sp - 2, pc := target } (s.sp - 2) v := by
  subst hv
  obtain ⟨hhi, hlo, hframe⟩ := peek_pushed (s.call_mem len target n)
  have hsp : s.sp - 2 + 1 = s.sp - 1 := by bv_omega
  rw [← hsp] at hhi hframe
  exact ⟨hb, _, he, hlo, hhi, fun x hx hx1 => hframe x hx1 hx, rfl⟩

/-- Settles O56: the calls by `stored16_of_call`; a return is one update, RETI's by the parameter. -/
theorem callReturnForms : Obligations.CallReturnForms := by
  unfold Obligations.CallReturnForms
  intro s cc nn t
  exact ⟨stored16_of_call rfl rfl rfl, fun h => stored16_of_call rfl (congrArg _ (if_pos h)) rfl,
    fun h => ⟨rfl, congrArg _ (if_neg (ne_true_of_eq_false h))⟩, stored16_of_call rfl rfl rfl,
    ⟨rfl, rfl⟩, fun h => ⟨rfl, congrArg _ (if_pos h)⟩, fun h => ⟨rfl, congrArg _ (if_neg (ne_true_of_eq_false h))⟩,
    fun h => ⟨rfl, congrArg _ (if_neg (ne_true_of_eq_false h))⟩, fun h => ⟨rfl, congrArg _ (if_pos h)⟩,
    rfl, ⟨rfl, rfl⟩⟩

/-- Settles O57: RET takes the word that CALL pushed, by `word_pushed`. -/
theorem returnUndoesCall : Obligations.ReturnUndoesCall := by
  unfold Obligations.ReturnUndoesCall
  intro s t u nn h hsp hmem
  cases h
  have husp : u.sp = s.sp - 2 := hsp
  have humem : u.mem = (s.push16 (s.pc + 3)).mem := hmem
  obtain ⟨-, -, hframe⟩ := peek_pushed ((u.ret_mem 10).trans humem)
  refine ⟨u.ret 10, rfl, ?_, ?_, hframe⟩
  · calc word u u.sp = word u (s.sp - 2) := by rw [husp]
      _ = s.pc + 3 := word_pushed humem
  · calc u.sp + 2 = s.sp - 2 + 2 := by rw [husp]
      _ = s.sp := BitVec.sub_add_cancel s.sp 2

end Sys2Proof.Machine
end

section
/-! PROOFS. Input and output (R321 to R332): single transfers, and one iteration of the block forms. -/

namespace Sys2Proof.Machine

open State Claim

/-! ### Single transfers -/

/-- Settles O58: IN A,(n) and the outputs are one update each; IN r,(C) puts the answer in a register, with the
flags of `moveFlags`. -/
theorem inOutForms : Obligations.InOutForms := by
  unfold Obligations.InOutForms
  intro s r n
  refine ⟨⟨rfl, rfl⟩, ?_, ⟨rfl, rfl⟩, ⟨rfl, rfl⟩⟩
  rw [← moveFlags_eq]
  exact ⟨rfl, _, rfl, withAnyXY_six _ _, by cases r <;> rfl⟩

/-! ### How a block form ends -/

/-- The end of a block input or output: the one draw is used up, F becomes `f`, PC `p`, and the time is
`n`. -/
def State.blockIoEnd (s : State) (f : Flags) (p : Word) (n : Nat) : State :=
  { s with
    main := { s.main with f := f }, anyIn := s.anyIn.tail, draws := s.draws + 1, pc := p, returned := n }

/-- With B counted down to 0 a repeating form ends like the single one (R324). -/
theorem State.blockIoRepeat_last {s : State} {f : Flags} (h : s.main.b = 0) :
    s.blockIoRepeat f = s.blockIoEnd (withAnyXY f s.nextDraw) (s.pc + 2) 16 := if_neg (by simp [h])

/-- With another B it stays at its own address, H and PV free (R324). -/
theorem State.blockIoRepeat_again {s : State} {f : Flags} (h : s.main.b ≠ 0) :
    s.blockIoRepeat f = s.blockIoEnd (withAnyXYHPv f s.nextDraw) s.pc 21 := if_pos (bne_iff_ne.2 h)

/-! ### The flags -/

/-- S and Z are the new B's, N is bit 7 of the byte moved, H, C and PV are by the sum `k` (R323). -/
theorem blockIoFlags_eq (k : Nat) (v b : Byte) (f : Flags) :
    blockIoFlags k v b f = { f with
      s := b.getLsbD 7, z := decide (b = 0#8), h := decide (k > 255),
      pv := parity8 (BitVec.ofNat 8 (k % 8) ^^^ b), n := v.getLsbD 7, c := decide (k > 255) } := by
  simp only [blockIoFlags, msb_eq_getLsbD_7, beq_eq_decide, BitVec.ofNat_eq_ofNat]

theorem six_blockIoFlags {k : Nat} {v b : Byte} {f : Flags} {d : Byte} :
    six (withAnyXY (blockIoFlags k v b f) d) { f with
      s := b.getLsbD 7, z := decide (b = 0#8), h := decide (k > 255),
      pv := parity8 (BitVec.ofNat 8 (k % 8) ^^^ b), n := v.getLsbD 7, c := decide (k > 255) } := by
  rw [← blockIoFlags_eq]
  exact withAnyXY_six _ d

/-- After an iteration that repeats, H and PV are bits of the draw (R324, log 5). -/
theorem six_blockIoFlags_again {k : Nat} {v b : Byte} {f : Flags} {d : Byte} :
    six (withAnyXYHPv (blockIoFlags k v b f) d) { f with
      s := b.getLsbD 7, z := decide (b = 0#8), h := d.getLsbD 4, pv := d.getLsbD 2, n := v.getLsbD 7,
      c := decide (k > 255) } := by
  rw [blockIoFlags_eq]
  exact ⟨rfl, rfl, rfl, rfl, rfl, rfl⟩

/-! ### The transfers -/

/-- An input of a byte to HL, HL stepped by `k` and B counted down. -/
theorem flaggedStored_of_blockIn {i : Instr} {bytes : List Byte} {s : State} {k p : Word} {c : Byte}
    {f g : Flags} {n : Nat} (hb : encode i = bytes)
    (he : exec i s = .next ((s.blockIn k c).2.blockIoEnd f p n)) (hf : six f g) :
    flaggedStored i bytes s g
      { pastDrawn s 2 n
          [.portRead s.main.bc (s.portAnswer s.main.bc), .memWrite s.main.hl (s.portAnswer s.main.bc)] with
        main := { s.main with b := s.main.b - 1, h := hi (s.main.hl + k), l := lo (s.main.hl + k) }
        portIn := s.portIn.tail, draws := s.draws + 2, pc := p } s.main.hl (s.portAnswer s.main.bc) :=
  ⟨hb, _, he, hf, (s.blockIn_peek k c _).trans (if_pos rfl),
    fun x hx => (s.blockIn_peek k c x).trans (if_neg hx), rfl⟩

/-- An output of the byte at HL, HL stepped by `k` and B counted down. -/
theorem flagged_of_blockOut {i : Instr} {bytes : List Byte} {s : State} {k p : Word} {f g : Flags} {n : Nat}
    (hb : encode i = bytes) (he : exec i s = .next ((s.blockOut k).2.blockIoEnd f p n)) (hf : six f g) :
    flagged i bytes s g
      { pastDrawn s 2 n
          [readOf s s.main.hl, .portWrite (pair (s.main.b - 1) s.main.c) (s.peek s.main.hl)] with
        main := { s.main with b := s.main.b - 1, h := hi (s.main.hl + k), l := lo (s.main.hl + k) }
        pc := p } :=
  ⟨hb, _, he, hf, rfl⟩

/-- Settles O59: the inputs by `flaggedStored_of_blockIn`, the outputs by `flagged_of_blockOut`, with the step 1
or -1; each repeating form ends in one of two ways. -/
theorem blockInputOutputForms : Obligations.BlockInputOutputForms := by
  unfold Obligations.BlockInputOutputForms
  intro s
  rw [BitVec.sub_eq_add_neg s.main.hl 1, BitVec.sub_eq_add_neg s.main.c 1]
  exact ⟨flaggedStored_of_blockIn (c := 1) rfl rfl six_blockIoFlags,
    fun h => flaggedStored_of_blockIn (c := 1) rfl (congrArg _ (blockIoRepeat_last h)) six_blockIoFlags,
    fun h => ⟨_, _, flaggedStored_of_blockIn (c := 1) rfl (congrArg _ (blockIoRepeat_again h))
      six_blockIoFlags_again⟩,
    flaggedStored_of_blockIn (c := -1) rfl rfl six_blockIoFlags,
    fun h => flaggedStored_of_blockIn (c := -1) rfl (congrArg _ (blockIoRepeat_last h)) six_blockIoFlags,
    fun h => ⟨_, _, flaggedStored_of_blockIn (c := -1) rfl (congrArg _ (blockIoRepeat_again h))
      six_blockIoFlags_again⟩,
    flagged_of_blockOut rfl rfl six_blockIoFlags,
    fun h => flagged_of_blockOut rfl (congrArg _ (blockIoRepeat_last h)) six_blockIoFlags,
    fun h => ⟨_, _, flagged_of_blockOut rfl (congrArg _ (blockIoRepeat_again h)) six_blockIoFlags_again⟩,
    flagged_of_blockOut rfl rfl six_blockIoFlags,
    fun h => flagged_of_blockOut rfl (congrArg _ (blockIoRepeat_last h)) six_blockIoFlags,
    fun h => ⟨_, _, flagged_of_blockOut rfl (congrArg _ (blockIoRepeat_again h)) six_blockIoFlags_again⟩⟩

end Sys2Proof.Machine
end

section
/-! PROOFS. The two interrupt entries (R346, R348), and RETN after one (R306, R353). -/

namespace Sys2Proof.Machine

open State Claim

theorem signalNmi_mem {s : State} (h : s.haltSt ≠ .waiting) : s.signalNmi.mem = (s.push16 s.pc).mem := by
  rw [signalNmi_of_not_waiting h]
  rfl

theorem signalInt_mem {s : State} (h : s.haltSt ≠ .waiting) (h1 : s.iff1 = true) :
    s.signalInt.mem = (s.push16 s.pc).mem := by
  rw [signalInt_of_enabled h h1]
  rfl

/-- Settles O21: the two branches of the entry, and the frame of its push. -/
theorem nonMaskableSignal : Obligations.NonMaskableSignal := by
  unfold Obligations.NonMaskableSignal
  refine ⟨fun s h => signal_of_waiting h .nmi, fun s h => ?_, rfl⟩
  obtain ⟨hhi, hlo, hframe⟩ := peek_pushed (signalNmi_mem h)
  refine ⟨hhi, hlo, hframe, ?_⟩
  rw [signalNmi_of_not_waiting h, enter_eq]
  rfl

/-- Settles O22: the three branches of the entry, and the frame of its push. -/
theorem maskableSignal : Obligations.MaskableSignal := by
  unfold Obligations.MaskableSignal
  refine ⟨fun s h => signal_of_waiting h .int, fun s => signalInt_of_disabled, fun s h h1 => ?_, rfl⟩
  obtain ⟨hhi, hlo, hframe⟩ := peek_pushed (signalInt_mem h h1)
  refine ⟨hhi, hlo, hframe, ?_⟩
  rw [signalInt_of_enabled h h1, enter_eq]
  rfl

/-- RETN after an NMI entry finds PC on the stack and the old IFF1 in IFF2 (R353). -/
theorem retn_signalNmi {s : State} (h : s.haltSt ≠ .waiting) (n : Nat) :
    s.signalNmi.retn n = { s with
      iff2 := s.iff1, mem := (s.signalNmi.retn n).mem, bus := (s.signalNmi.retn n).bus, returned := n } := by
  have hsp : s.signalNmi.sp = s.sp - 2 := by simp [signalNmi_of_not_waiting h]
  ext1
  case pc =>
    calc word s.signalNmi s.signalNmi.sp = word s.signalNmi (s.sp - 2) := by rw [hsp]
      _ = s.pc := word_pushed (signalNmi_mem h)
  case sp =>
    calc s.signalNmi.sp + 2 = s.sp - 2 + 2 := by rw [hsp]
      _ = s.sp := BitVec.sub_add_cancel s.sp 2
  all_goals simp [signalNmi_of_not_waiting h, retn_eq]

/-- Settles O25: `retn_signalNmi`, and the frame of the entry's push. -/
theorem retnUndoesNmiEntry : Obligations.RetnUndoesNmiEntry := by
  unfold Obligations.RetnUndoesNmiEntry
  intro s h
  obtain ⟨-, -, hframe⟩ := peek_pushed ((retn_mem _ 14).trans (signalNmi_mem h))
  exact ⟨s.signalNmi.retn 14, rfl, retn_signalNmi h 14, hframe⟩

end Sys2Proof.Machine
end

section
/-! PROOFS. The outcomes of a step: it completes, or its bytes are no instruction (R340 to R344); the time of an
instruction (R394); the EI delay across a step (R342); and the state after reset (R381). -/

namespace Sys2Proof.Machine

open State Claim

/-! ### A step completes or its bytes are no instruction -/

/-- The EI-delay update touches neither PC nor memory, so the look-ahead bytes stay. -/
@[simp] theorem State.eiUpdate_decoded (s : State) : s.eiUpdate.decoded = s.decoded := by
  simp only [decoded, eiUpdate_pc, peek_congr s.eiUpdate_mem]

/-- The look-ahead adds its four reads to the trace and changes nothing else (R60). -/
theorem State.lookAhead_snd (s : State) : s.lookAhead.2 = { s with
    bus := [.memRead (s.pc + 3) (s.peek (s.pc + 3)), .memRead (s.pc + 2) (s.peek (s.pc + 2)),
      .memRead (s.pc + 1) (s.peek (s.pc + 1)), .memRead s.pc (s.peek s.pc)] ++ s.bus } := by
  ext1 <;> simp

/-- Settles O7: where no row matches, nothing but the EI-delay update and the look-ahead has happened. -/
theorem decodeFaultLeavesStateAsRead : Obligations.DecodeFaultLeavesStateAsRead := by
  unfold Obligations.DecodeFaultLeavesStateAsRead
  rintro s _ r rfl h
  unfold step engineStep
  rw [lookAhead_eq]
  simp only [fetched, h, lookAhead_snd]

/-- Settles O8: a step is the instruction's rule, which completes, or a decode fault. -/
theorem onlyUndecodableBytesStop : Obligations.OnlyUndecodableBytesStop := by
  unfold Obligations.OnlyUndecodableBytesStop
  intro s
  cases hd : s.deliver.eiUpdate.decoded with
  | ok i =>
    obtain ⟨t, ht⟩ := exec_completes i (s.deliver.eiUpdate.readied i)
    have hs : step s = .next t := (step_of_decoded hd).trans ht
    rw [eiUpdate_decoded] at hd
    exact ⟨⟨fun _ => ⟨i, hd⟩, fun _ => ⟨t, hs⟩⟩, fun r e => nomatch hs.symm.trans e⟩
  | error r =>
    obtain ⟨_, _, _, _, _, hs⟩ := step_of_undecoded hd
    rw [eiUpdate_decoded] at hd
    exact ⟨⟨fun ⟨_, e⟩ => (nomatch hs.symm.trans e), fun ⟨_, e⟩ => (nomatch hd.symm.trans e)⟩,
      fun _ e => (nomatch hs.symm.trans e)⟩

/-! ### The time of an instruction -/

namespace State

variable (s : State)

@[simp] theorem call_returned (len : Nat) (t : Word) (n : Nat) : (s.call len t n).returned = n := rfl
@[simp] theorem retn_returned (n : Nat) : (s.retn n).returned = n := rfl
@[simp] theorem reti_returned (n : Nat) : (s.reti n).returned = n := by rw [reti_eq, ret_returned]
@[simp] theorem jumpRelIf_returned (b : Bool) (e : Byte) (m n : Nat) :
    (s.jumpRelIf b e m n).returned = if b then m else n := by rw [jumpRelIf_eq]
@[simp] theorem repeatIf_returned (again : Bool) :
    (s.repeatIf again).returned = if again then 21 else 16 := by rw [repeatIf_eq]
@[simp] theorem blockIoRepeat_returned (f : Flags) :
    (s.blockIoRepeat f).returned = if s.main.b = 0 then 16 else 21 := by rw [blockIoRepeat_eq]

end State

/-- The time of every instruction, in each of its outcomes, is in the range of the Time lines (R394). -/
theorem exec_returned {i : Instr} {s t : State} (h : exec i s = .next t) :
    4 ≤ t.returned ∧ t.returned ≤ 23 := by
  cases i
  case halt => obtain ⟨-, e⟩ | ⟨-, e⟩ := exec_halt_cases s <;> cases h.symm.trans e <;> simp
  case jpCcNn | callCcNn | retCc => cases h; split <;> simp
  case jrCE | jrNcE | jrZE | jrNzE | djnzE | ldir | lddr | cpir | cpdr | inir | indr | otir | otdr =>
    cases h
    simp only [jumpRelIf_returned, repeatIf_returned, blockIoRepeat_returned]
    split <;> decide
  all_goals
    cases h
    simp

/-- Settles O9: `exec_completes` and `exec_returned`. -/
theorem everyInstructionCompletes : Obligations.EveryInstructionCompletes := by
  unfold Obligations.EveryInstructionCompletes
  intro i s
  obtain ⟨t, ht⟩ := exec_completes i s
  exact ⟨t, ht, exec_returned ht⟩

/-! ### The EI delay across a step -/

/-- The latch after the update, by the table of R342. -/
theorem State.eiUpdate_eiSt (s : State) : s.eiUpdate.eiSt = match s.eiSt with
    | .none => .none
    | .waiting => .satisfied
    | .satisfied => .none := by
  cases h : s.eiSt <;> simp [eiUpdate, h]

/-- The enables after the update: set where the latch was satisfied, else as before (R342). -/
theorem State.eiUpdate_enables_of_eiSt (s : State) :
    (s.eiSt = .satisfied → s.eiUpdate.iff1 = true ∧ s.eiUpdate.iff2 = true) ∧
      (s.eiSt ≠ .satisfied → s.eiUpdate.iff1 = s.iff1 ∧ s.eiUpdate.iff2 = s.iff2) := by
  cases h : s.eiSt <;> simp [eiUpdate, h]

@[simp] theorem State.readied_eiSt (s : State) (i : Instr) : (s.readied i).eiSt = s.eiSt := by simp [readied]

/-- Settles O10: with no signal in the gap the instruction starts from the updated latch and enables, and by
`specialRegisterWriters` only EI, DI, RETN and RETI write them. -/
theorem eiDelayAdvancesPerStep : Obligations.EiDelayAdvancesPerStep := by
  unfold Obligations.EiDelayAdvancesPerStep
  refine ⟨fun s => ?_, fun s t i hq hd hstep => ?_⟩
  · cases h : s.eiSt <;> simp [eiUpdate, h]
  have hu : s.deliver.eiUpdate = { s.eiUpdate with signals := s.signals.tail } := by
    rw [s.deliver_of_no_signal hq, eiUpdate_with_signals]
  have hdec : s.deliver.eiUpdate.decoded = .ok i := by
    rw [eiUpdate_decoded, s.deliver_of_no_signal hq]
    exact hd
  have he := (step_of_decoded hdec).symm.trans hstep
  rw [hu] at he
  obtain ⟨-, -, -, h1, h2, hei, -⟩ := specialRegisterWriters i _ t he
  simp only [readied_eiSt, readied_iff1, readied_iff2] at h1 h2 hei
  refine ⟨?_, ?_, fun hiei hidi => ?_, fun hidi hiretn hireti => ?_⟩
  · rintro rfl
    cases he
    rfl
  · rintro rfl
    cases he
    rfl
  · exact (hei hidi hiei).trans s.eiUpdate_eiSt
  · rw [h1 hidi hiretn fun e => absurd e hireti, h2 hidi]
    exact s.eiUpdate_enables_of_eiSt

/-! ### Reset -/

theorem Flags.toByte_allSet : Flags.toByte ⟨true, true, true, true, true, true, true, true⟩ = 0xFF#8 := by
  decide

/-- Settles O20, by evaluation of the reset state. -/
theorem resetValues : Obligations.ResetValues := by
  unfold Obligations.ResetValues
  refine ⟨?_, {}, Config.default, rfl⟩
  rintro u cfg _ rfl
  exact ⟨rfl, rfl, Flags.toByte_allSet, rfl, rfl, rfl, rfl, rfl, rfl, rfl⟩

end Sys2Proof.Machine
end
